-- ==== Sys2Proof/Word.lean ====
section
/-! DEFINITION. Sys2Proof/Word.lean: the sizes of the SPU's data (R7) and the numbers of its registers, channels and
special purpose registers (R20, R73). -/

namespace Sys2Proof

/-- A byte, 8 bits (R7). -/
abbrev Byte := BitVec 8
/-- A halfword, 16 bits (R7). -/
abbrev Half := BitVec 16
/-- A word, 32 bits (R7). -/
abbrev Word := BitVec 32
/-- A doubleword, 64 bits (R7). -/
abbrev DWord := BitVec 64
/-- A quadword, 128 bits: what fills one register (R7). -/
abbrev Quad := BitVec 128

/-- A general register number, 0 to 127 (R20). -/
abbrev Reg := BitVec 7
/-- A channel number, 0 to 127 (R73, R78). -/
abbrev Chan := BitVec 7
/-- A special purpose register number, 0 to 127 (R73, R78). -/
abbrev SprNum := BitVec 7

end Sys2Proof
end

