-- ==== Sys2Proof/Machine/Elements.lean ====
section
/-! DEFINITION. Sys2Proof/Machine/Elements.lean: the elements of a quadword (R9), numbered from the most significant end
(D3, log 9), and operations on all elements of one size. -/

namespace Sys2Proof.Machine

/-- Byte element `k` of R9, `q.b[k]`. -/
def byteOf (q : Quad) (k : Nat) : Byte := q.extractLsb' (120 - 8 * k) 8
/-- Halfword element `k` of R9, `q.h[k]`. -/
def halfOf (q : Quad) (k : Nat) : Half := q.extractLsb' (112 - 16 * k) 16
/-- Word element `k` of R9, `q.w[k]`. -/
def wordOf (q : Quad) (k : Nat) : Word := q.extractLsb' (96 - 32 * k) 32
/-- Doubleword element `k` of R9, `q.d[k]`. -/
def dwordOf (q : Quad) (k : Nat) : DWord := q.extractLsb' (64 - 64 * k) 64

/-- The quadword with word elements `f 0` to `f 3`. -/
def ofWords (f : Nat → Word) : Quad := f 0 ++ f 1 ++ f 2 ++ f 3
/-- The quadword with doubleword elements `f 0` and `f 1`. -/
def ofDWords (f : Nat → DWord) : Quad := f 0 ++ f 1
/-- The quadword with halfword elements `f 0` to `f 7`. -/
def ofHalves (f : Nat → Half) : Quad := f 0 ++ f 1 ++ f 2 ++ f 3 ++ f 4 ++ f 5 ++ f 6 ++ f 7
/-- The quadword with byte elements `f 0` to `f 15`. -/
def ofBytes (f : Nat → Byte) : Quad :=
  f 0 ++ f 1 ++ f 2 ++ f 3 ++ f 4 ++ f 5 ++ f 6 ++ f 7 ++ f 8 ++ f 9 ++ f 10 ++ f 11 ++ f 12 ++ f 13 ++ f 14 ++ f 15

/-- `f` on each word element. -/
def mapWords (f : Word → Word) (x : Quad) : Quad := ofWords fun k => f (wordOf x k)
/-- `f` on corresponding word elements of two quadwords. -/
def mapWords2 (f : Word → Word → Word) (x y : Quad) : Quad := ofWords fun k => f (wordOf x k) (wordOf y k)
/-- `f` on corresponding word elements of three quadwords. -/
def mapWords3 (f : Word → Word → Word → Word) (x y z : Quad) : Quad :=
  ofWords fun k => f (wordOf x k) (wordOf y k) (wordOf z k)
/-- `f` on each halfword element. -/
def mapHalves (f : Half → Half) (x : Quad) : Quad := ofHalves fun k => f (halfOf x k)
/-- `f` on corresponding halfword elements of two quadwords. -/
def mapHalves2 (f : Half → Half → Half) (x y : Quad) : Quad := ofHalves fun k => f (halfOf x k) (halfOf y k)
/-- `f` on each byte element. -/
def mapBytes (f : Byte → Byte) (x : Quad) : Quad := ofBytes fun k => f (byteOf x k)
/-- `f` on corresponding byte elements of two quadwords. -/
def mapBytes2 (f : Byte → Byte → Byte) (x y : Quad) : Quad := ofBytes fun k => f (byteOf x k) (byteOf y k)
/-- `f` on corresponding doubleword elements of two quadwords. -/
def mapDWords2 (f : DWord → DWord → DWord) (x y : Quad) : Quad := ofDWords fun k => f (dwordOf x k) (dwordOf y k)
/-- `f` on corresponding doubleword elements of three quadwords. -/
def mapDWords3 (f : DWord → DWord → DWord → DWord) (x y z : Quad) : Quad :=
  ofDWords fun k => f (dwordOf x k) (dwordOf y k) (dwordOf z k)

/-- A value in word element 0 and zeros in the other three (R182, R300 f, R401). -/
def inWord0 (w : Word) : Quad := w ++ 0#32 ++ 0#32 ++ 0#32

/-- `rep_N(b)` of R8: all bits equal to `b`. -/
def rep (n : Nat) (b : Bool) : BitVec n := if b then BitVec.allOnes n else 0#n

/-- The 16 most significant bits of a word (R165). -/
def hi16 (w : Word) : Half := w.extractLsb' 16 16
/-- The 16 least significant bits of a word (R165). -/
def lo16 (w : Word) : Half := w.extractLsb' 0 16
/-- The 8 least significant bits of a 10-bit immediate (R203, R280). -/
def low8 (s10 : BitVec 10) : Byte := s10.extractLsb' 0 8

end Sys2Proof.Machine
end

