-- ==== Sys2Proof/Config.lean ====
section
/-! DEFINITION. Sys2Proof/Config.lean: what an implementation fixes (R6) and the free values: constants with no body,
of which no proof can learn the value. -/

namespace Sys2Proof.Config

/-! ## Parameters with the value of this hardware (R6) -/

/-- LS_SIZE, the bytes of local storage: 256 KB (R6, D4; log 1). -/
def lsSize : Nat := 0x40000

/-- LS_SIZE - 1, the mask that reduces an address modulo the local-storage size (R51). -/
def lsMask : Word := 0x3FFFF#32

/-- INIT_SP = LS_SIZE - 0x30 (R6, R112). -/
def initSp : Word := 0x3FFD0#32

/-- ENTRY_PC (R6, D7). DESIGN CHOICE 0, unsafe (log 2). -/
def entryPc : Word := 0#32

/-- SP_W1, the Available Stack Space at entry (R39, D9). DESIGN CHOICE 0, unsafe (log 4). -/
def spW1 : Word := 0#32
/-- SP_W2 (R39, D9). DESIGN CHOICE 0, unsafe (log 4). -/
def spW2 : Word := 0#32
/-- SP_W3 (R39, D9). DESIGN CHOICE 0, unsafe (log 4). -/
def spW3 : Word := 0#32

/-! ## Open parameters -/

/-- The two readings of which halfword `mpys` multiplies (R172, C12). -/
inductive MpysHalf where
  | high
  | low
  deriving DecidableEq, Repr, Inhabited

/-- MPYS_HALF (R6, D24), open (log 15). -/
opaque mpysHalf : MpysHalf

/-- The two readings of the address `stop` writes to the SPU NPC register (R391 (1), C8). -/
inductive NpcAtStop where
  | pc
  | pcPlus4
  deriving DecidableEq, Repr, Inhabited

/-- NPC_AT_STOP (R6, D19), open (log 19). -/
opaque npcAtStop : NpcAtStop

/-- FPSCR_MASK: the FPSCR bits that hold state (R6, R31, D15), open (log 20). -/
opaque fpscrMask : Quad

/-- The byte a data load finds at an address of local storage whose content at entry is unspecified and that nothing
has written: arbitrary but fixed per address (U2; log 7). -/
opaque entryByte : Nat → Byte

/-- Word elements 1 to 3 of the result of `mfspr` (R398 (2), U11): a fresh value for each step (log 28). -/
opaque unspecified96 : Nat → BitVec 96

/-! ## The channel oracle (R34, R400 to R402, R414, D13, D17; logs 25 and 26)

Each answer depends on the number of steps taken, on everything that passed over the channels so far and on the
bytes written to local storage, so that no relation between two answers is assumed. -/

/-- What the outside world sees the SPU do: channel values exchanged, with all 128 bits (R400, R402 (3)), and the two
events of R410. -/
inductive Event where
  /-- `rdch` took `value` from channel `ch` (R400). -/
  | chRead (ch : Chan) (value : Quad)
  /-- `wrch` gave `value` to channel `ch` (R402). -/
  | chWrite (ch : Chan) (value : Quad)
  /-- StopAndSignal(code, npc), sent to the PPU (R411). -/
  | stopAndSignal (code : BitVec 14) (npc : Word)
  /-- Halt(pc) (R412). -/
  | halt (pc : Word)
  deriving DecidableEq, Repr

/-- What the oracle can look at: steps taken, events so far, bytes of local storage written. -/
structure OracleView where
  now : Nat
  trace : List Event
  ls : List Host.Cell
  deriving DecidableEq, Repr

/-- ChRead(c) of R34: a 128-bit value, or none for `blocked`. -/
opaque oracleRead : OracleView → Chan → Option Quad
/-- ChWrite(c, v) of R34: true for `done`, false for `blocked`. -/
opaque oracleWrite : OracleView → Chan → Quad → Bool
/-- ChCount(c) of R34. -/
opaque oracleCount : OracleView → Chan → Word
/-- IRQ() of R414. -/
opaque oracleIrq : OracleView → Bool

/-! ## Numerics (R351, D16): floating-point results outside the exact core (log 21)

The last argument `f` is the current FPSCR. -/

/-- sp_add of R351. -/
opaque spAdd (a b : Word) (f : Quad) : Word
/-- sp_sub of R351. -/
opaque spSub (a b : Word) (f : Quad) : Word
/-- sp_mul of R351. -/
opaque spMul (a b : Word) (f : Quad) : Word
/-- sp_madd of R351, a*b + c. -/
opaque spMadd (a b c : Word) (f : Quad) : Word
/-- sp_msub of R351, a*b - c. -/
opaque spMsub (a b c : Word) (f : Quad) : Word
/-- sp_nmsub of R351, c - a*b. -/
opaque spNmsub (a b c : Word) (f : Quad) : Word
/-- dp_add of R351. -/
opaque dpAdd (a b : DWord) (f : Quad) : DWord
/-- dp_sub of R351. -/
opaque dpSub (a b : DWord) (f : Quad) : DWord
/-- dp_mul of R351. -/
opaque dpMul (a b : DWord) (f : Quad) : DWord
/-- dp_madd of R351, a*b + t. -/
opaque dpMadd (a b t : DWord) (f : Quad) : DWord
/-- dp_msub of R351, a*b - t. -/
opaque dpMsub (a b t : DWord) (f : Quad) : DWord
/-- dp_nmsub of R351, t - a*b. -/
opaque dpNmsub (a b t : DWord) (f : Quad) : DWord
/-- dp_nmadd of R351, -(a*b + t). -/
opaque dpNmadd (a b t : DWord) (f : Quad) : DWord
/-- sp_recip_est of R351. -/
opaque spRecipEst (a : Word) : Word
/-- sp_rsqrt_est of R351. -/
opaque spRsqrtEst (a : Word) : Word
/-- sp_interp of R351. -/
opaque spInterp (a b : Word) : Word
/-- sp_to_dp of R351. -/
opaque spToDp (a : Word) (f : Quad) : DWord
/-- dp_to_sp of R351. -/
opaque dpToSp (a : DWord) (f : Quad) : Word
/-- sp_to_si of R351, where R370 does not fix it. -/
opaque spToSi (a : Word) (scale : BitVec 8) : Word
/-- sp_to_ui of R351, where R371 does not fix it. -/
opaque spToUi (a : Word) (scale : BitVec 8) : Word
/-- Which adjacent integer sp_to_si takes for a fractional value (R370): true for the larger one (log 24). -/
opaque spToSiUp (a : Word) (scale : BitVec 8) : Bool
/-- Which adjacent integer sp_to_ui takes for a fractional value (R371): true for the larger one (log 24). -/
opaque spToUiUp (a : Word) (scale : BitVec 8) : Bool
/-- si_to_sp of R351, where R372 does not fix it. -/
opaque siToSp (i : Word) (scale : BitVec 8) : Word
/-- ui_to_sp of R351, where R373 does not fix it. -/
opaque uiToSp (i : Word) (scale : BitVec 8) : Word
/-- sp_eq of R351, where R374 does not fix it. -/
opaque spEq (a b : Word) : Bool
/-- sp_gt of R351, where R376 does not fix it. -/
opaque spGt (a b : Word) : Bool
/-- sp_meq of R351, where R375 does not fix it. -/
opaque spMeq (a b : Word) : Bool
/-- sp_mgt of R351, where R377 does not fix it. -/
opaque spMgt (a b : Word) : Bool

/-- The names of the instructions that pass through Numerics (R351, R378), for `fpscrAfter`. -/
inductive FpOp where
  | fa | fs | fm | fma | fms | fnms
  | dfa | dfs | dfm | dfma | dfms | dfnms | dfnma
  | frest | frsqest | fi | fesd | frds
  | cflts | cfltu | csflt | cuflt
  | fceq | fcmeq | fcgt | fcmgt
  deriving DecidableEq, Repr

/-- fpscr_after of R351 and R378: the name of the instruction, its input registers in operand order and the FPSCR
before it, and nothing else: the scale of a conversion is no argument (log 22). -/
opaque fpscrAfter (op : FpOp) (inputs : List Quad) (f : Quad) : Quad

end Sys2Proof.Config
end

