-- ==== Sys2Proof/Machine/State.lean ====
section
/-! DEFINITION. Sys2Proof/Machine/State.lean: the state of the machine as plain data (10_state.md), the reasons a step can
stop (R413), and the state at program entry (R39, R441). -/

namespace Sys2Proof.Machine

/-- The run state (R38). -/
inductive RunState where
  /-- Executes instructions. -/
  | running
  /-- After `stop` or `stopd` (R411). Terminal (U12; log 32). -/
  | stopped
  /-- After a halt instruction whose condition held (R412). Terminal (U12; log 32). -/
  | halted
  deriving DecidableEq, Repr

/-- The answers of the channel oracle for one step, given as data. A step asks for the interrupt request and for at
most one of the others, about one channel (R34, R414; log 25). -/
structure OracleAnswer where
  /-- IRQ(), asked at the boundary before the instruction (R414). -/
  irq : Bool
  /-- ChCount(c) (R401). -/
  count : Word
  /-- ChRead(c), none for `blocked` (R400). -/
  read : Option Quad
  /-- ChWrite(c, v), true for `done` and false for `blocked` (R402). -/
  wrote : Bool
  deriving DecidableEq, Repr

/-- Local storage: (address, byte) pairs, addresses strictly rising, no pair equal to what an unlisted address reads
as (`Memory.wf` in Machine/Ops.lean). -/
abbrev Memory := List Host.Cell

/-- The machine. -/
structure State where
  /-- The 128 general registers (R20). -/
  regs : Vector Quad 128
  /-- The address of the instruction being executed (R25). -/
  pc : Word
  /-- IE, the interrupt-enable state (R28). -/
  ie : Bool
  /-- SRR0 (R30). -/
  srr0 : Word
  /-- FPSCR (R31). -/
  fpscr : Quad
  /-- The special purpose registers: none where the SPR map has no register of that number (R32, R398 (1); log 29). -/
  sprs : Vector (Option Word) 128
  /-- The SPU NPC register (R33). -/
  npc : Word
  /-- STATUS_CODE, the stop-and-signal value of the SPU status register (R33). -/
  statusCode : BitVec 14
  /-- Local storage (R35). -/
  ls : Memory
  /-- Dirty: quadword addresses stored to since the last `sync` or `syncc`, strictly rising (R62). -/
  dirty : List Nat
  /-- The run state (R38). -/
  run : RunState
  /-- An `rdch` or `wrch` is waiting on its channel (R400 (2), R402 (2); log 27). -/
  stalled : Bool
  /-- Channel operations and host events, oldest first (R402 (3), R411, R412; log 26). -/
  trace : List Config.Event
  /-- The model's own: the oracle's answers for the coming steps, one each; past its end the opaque oracle of Config
  answers (log 25). -/
  script : List OracleAnswer
  /-- The model's own: the number of steps taken, to which free values are applied (log 28). -/
  now : Nat
  deriving DecidableEq, Repr

/-- Why a step stops. Model faults, not events of the hardware (R413). -/
inductive Fault where
  /-- Raised by the fetch from a quadword stored to since the last `sync` or `syncc` (R62, U4). Safe: the hardware
  sees the old or the new word. -/
  | selfModifyingFetch (addr : Word)
  /-- Raised by the fetch of bytes that nothing has defined (R64, U2). Safe: the hardware runs some word. -/
  | noInstruction (addr : Word)
  /-- Raised by the decode of a word that is no instruction (R82, U5), and by `mfspr` and `mtspr` for a number outside
  the SPR map (R398 (1)). Safe: the spec gives such a word no effect. -/
  | illegalInstruction (w : Word)
  /-- Raised by a step in run state stopped or halted: the stuck state of U12. Safe: a restart by the host is outside
  the spec. -/
  | notRunning (run : RunState)
  deriving DecidableEq, Repr

/-- Why an instruction has no meaning here. -/
inductive Refusal where
  /-- Raised by an arm of `exec` whose meaning is not written. Safe. No arm does. -/
  | notModelled (mnemonic : String)
  deriving DecidableEq, Repr

/-- What a meaning answers. -/
abbrev Result := Host.Outcome State Fault Refusal

/-- The general registers at program entry: register 1 as R39 and R112 say (logs 3 and 4), the others DESIGN CHOICE 0,
unsafe. -/
def entryRegs : Vector Quad 128 :=
  (Vector.replicate 128 (0#128)).set 1 (Config.initSp ++ Config.spW1 ++ Config.spW2 ++ Config.spW3)

/-- The state at program entry (R39, R441), which the spec takes as the start state. -/
def State.reset : State where
  regs := entryRegs
  pc := Config.entryPc
  ie := false
  srr0 := 0
  fpscr := 0
  sprs := Vector.replicate 128 (some 0#32)
  npc := 0
  statusCode := 0
  ls := []
  dirty := []
  run := .running
  stalled := false
  trace := []
  script := []
  now := 0

end Sys2Proof.Machine
end

