-- ==== Sys2Proof/Machine/Ops.lean ====
section
/-! DEFINITION. Sys2Proof/Machine/Ops.lean: the named operations on memory, registers, the program counter, the channels
and the run state; taking an interrupt and the return from one. -/

namespace Sys2Proof.Machine

/-! ## Addresses -/

/-- `LSA(ea)` of R51: reduced modulo LS_SIZE, the four least significant bits zero. -/
def lsa (ea : Word) : Nat := (ea &&& Config.lsMask &&& ~~~0xF#32).toNat

/-- What `pc <- a` makes of `a` (R27, R300 a): reduced modulo LS_SIZE, the two least significant bits zero. -/
def normPc (a : Word) : Word := a &&& Config.lsMask &&& ~~~3#32

/-! ## Local storage -/

/-- The bytes of local storage that program entry defines (R39): the Back Chain word at INIT_SP, which is
INIT_SP + 0x20, and the NULL word there. -/
def entryCells : List Host.Cell :=
  [ (0x3FFD0, 0x00#8), (0x3FFD1, 0x03#8), (0x3FFD2, 0xFF#8), (0x3FFD3, 0xF0#8),
    (0x3FFF0, 0x00#8), (0x3FFF1, 0x00#8), (0x3FFF2, 0x00#8), (0x3FFF3, 0x00#8) ]

/-- What an address that the memory does not list holds: the bytes of R39, and nothing elsewhere, since the content is
unspecified (R35, U2; log 7). -/
def Memory.unlisted (a : Nat) : Option Byte := entryCells.lookup a

/-- The byte of the pair listed for an address. -/
def Memory.listed : Memory → Nat → Option Byte
  | [], _ => none
  | (b, v) :: m, a => if a = b then some v else Memory.listed m a

/-- The byte at an address, none where nothing has defined it. -/
def Memory.read (m : Memory) (a : Nat) : Option Byte :=
  match Memory.listed m a with
  | some v => some v
  | none => Memory.unlisted a

/-- The byte a data access finds (U2): an undefined byte is an unknown fixed one (log 7). -/
def Memory.byte (m : Memory) (a : Nat) : Byte := (Memory.read m a).getD (Config.entryByte a)

/-- Puts a pair in its place, replacing one of the same address. -/
def Memory.insert : Memory → Nat → Byte → Memory
  | [], a, v => [(a, v)]
  | (b, w) :: m, a, v =>
    if a < b then (a, v) :: (b, w) :: m else if a = b then (a, v) :: m else (b, w) :: Memory.insert m a v

/-- Takes the pair of an address out. -/
def Memory.erase : Memory → Nat → Memory
  | [], _ => []
  | (b, w) :: m, a => if a = b then Memory.erase m a else (b, w) :: Memory.erase m a

/-- Writes one byte and keeps the canonical form: the value an unlisted address reads as is not listed. -/
def Memory.write (m : Memory) (a : Nat) (v : Byte) : Memory :=
  if Memory.unlisted a = some v then Memory.erase m a else Memory.insert m a v

/-- Writes bytes to rising addresses. -/
def Memory.writeBytes : Memory → Nat → List Byte → Memory
  | m, _, [] => m
  | m, a, v :: vs => Memory.writeBytes (Memory.write m a v) (a + 1) vs

/-- Strictly rising. -/
def rising : List Nat → Bool
  | [] => true
  | [_] => true
  | a :: b :: l => decide (a < b) && rising (b :: l)

/-- The canonical form: addresses strictly rising, inside local storage, no pair equal to what an unlisted address reads
as. -/
def Memory.wf (m : Memory) : Bool :=
  rising (m.map (·.1)) && m.all fun c => decide (c.1 < Config.lsSize) && !(Memory.unlisted c.1 == some c.2)

/-- `MemRead(addr, 16)` of R52: the byte at the lowest address is byte element 0 (R54). -/
def Memory.loadQuad (m : Memory) (addr : Nat) : Quad := ofBytes fun k => Memory.byte m (addr + k)

/-- The 16 byte elements of a quadword, element 0 first. -/
def quadBytes (v : Quad) : List Byte := (List.range 16).map (byteOf v)

/-- The bytes `MemWrite(addr, 16, v)` of R53 sets. -/
def Memory.storeQuad (m : Memory) (addr : Nat) (v : Quad) : Memory := Memory.writeBytes m addr (quadBytes v)

/-- A strictly rising list with a number put in its place. -/
def insertRising : List Nat → Nat → List Nat
  | [], a => [a]
  | b :: l, a => if a < b then a :: b :: l else if a = b then b :: l else b :: insertRising l a

/-- `MemRead` at an effective address. -/
def State.load (s : State) (ea : Word) : Quad := Memory.loadQuad s.ls (lsa ea)

/-- `MemWrite` at an effective address: the quadword is stored and its address joins Dirty (R53, R62). -/
def State.store (s : State) (ea : Word) (v : Quad) : State :=
  { s with ls := Memory.storeQuad s.ls (lsa ea) v, dirty := insertRising s.dirty (lsa ea) }

/-- Empties Dirty, as `sync` and `syncc` do (R62). -/
def State.clearDirty (s : State) : State := { s with dirty := [] }

/-! ## General registers -/

/-- `x[r]` (R9). No register is hardwired (R22). -/
def State.reg (s : State) (r : Reg) : Quad := s.regs[r.toNat]'r.isLt

/-- Word element 0 of a register, where addresses, counts and conditions are read (R13). -/
def State.reg0 (s : State) (r : Reg) : Word := wordOf (s.reg r) 0

/-- `x[r] <- v` (R9): all 128 bits. -/
def State.setReg (s : State) (r : Reg) (v : Quad) : State := { s with regs := s.regs.set r.toNat v r.isLt }

/-! ## Program counter -/

/-- Sequential advance (R26, R27). -/
def State.advance (s : State) : State := { s with pc := normPc (s.pc + 4#32) }

/-- `pc <- a` (R300 a). -/
def State.goto (s : State) (a : Word) : State := { s with pc := normPc a }

/-- The value of a set-link register (R300 f). -/
def State.link (s : State) : Quad := inWord0 ((s.pc + 4#32) &&& Config.lsMask)

/-- Writes the result register and goes on to the next instruction. -/
def State.retire (s : State) (rt : Reg) (v : Quad) : State := (s.setReg rt v).advance

/-- Writes IE (R28). -/
def State.setIe (s : State) (b : Bool) : State := { s with ie := b }

/-! ## Channels (R34, R400 to R402, R414): the script's answer for this step, or the opaque oracle's -/

/-- What the oracle can look at. -/
def State.view (s : State) : Config.OracleView := ⟨s.now, s.trace, s.ls⟩

/-- `IRQ()` (R414). -/
def State.irq (s : State) : Bool :=
  match s.script with
  | a :: _ => a.irq
  | [] => Config.oracleIrq s.view

/-- `ChCount(c)` (R401). -/
def State.chCount (s : State) (ch : Chan) : Word :=
  match s.script with
  | a :: _ => a.count
  | [] => Config.oracleCount s.view ch

/-- `ChRead(c)` (R400), none for `blocked`. -/
def State.chRead (s : State) (ch : Chan) : Option Quad :=
  match s.script with
  | a :: _ => a.read
  | [] => Config.oracleRead s.view ch

/-- `ChWrite(c, v)` (R402), false for `blocked`. -/
def State.chWrite (s : State) (ch : Chan) (v : Quad) : Bool :=
  match s.script with
  | a :: _ => a.wrote
  | [] => Config.oracleWrite s.view ch v

/-- Appends what the outside world sees. -/
def State.emit (s : State) (e : Config.Event) : State := { s with trace := s.trace ++ [e] }

/-- Marks a channel access as waiting or as done (U10, U23; log 27). -/
def State.setStalled (s : State) (b : Bool) : State := { s with stalled := b }

/-! ## Special purpose registers (R32) -/

/-- `SPR[n]`, none outside the SPR map (R398 (1); log 29). -/
def State.spr (s : State) (n : SprNum) : Option Word := s.sprs[n.toNat]'n.isLt

/-- `SPR[n] <- v`. -/
def State.setSpr (s : State) (n : SprNum) (v : Word) : State := { s with sprs := s.sprs.set n.toNat (some v) n.isLt }

/-! ## The ends of a run -/

/-- The address `stop` writes to the SPU NPC register (R391 (1), D19; log 19). -/
def State.npcValue (s : State) : Word :=
  match Config.npcAtStop with
  | .pc => s.pc
  | .pcPlus4 => (s.pc + 4#32) &&& Config.lsMask

/-- `StopAndSignal` (R411, R391): the SPU NPC and status registers are written, the PPU gets its interrupt as an event,
`pc` stays (log 32). -/
def State.stopAndSignal (s : State) (code : BitVec 14) : State :=
  { s with npc := s.npcValue, statusCode := code, run := .stopped, trace := s.trace ++ [.stopAndSignal code s.npcValue] }

/-- `Halt` (R412): `pc` stays, nothing else is written (log 32). -/
def State.halt (s : State) : State := { s with run := .halted, trace := s.trace ++ [.halt s.pc] }

/-! ## Interrupts of the SPU (R414 to R419; log 30) -/

/-- Whether the boundary before the instruction at `pc` takes an interrupt (R415): not while a channel access is
stalled (U23; log 27). -/
def State.interrupted (s : State) : Bool := s.ie && !s.stalled && s.irq

/-- Interrupt entry (R416): SRR0 saves `pc`, IE becomes 0, the handler is at address 0. -/
def State.takeInterrupt (s : State) : State := { s with srr0 := s.pc, ie := false, pc := 0 }

/-- The return from an interrupt (R315, R419): `pc` from SRR0. The suffixed forms then write IE. -/
def State.returnFromInterrupt (s : State) : State := s.goto s.srr0

/-- The end of every step: the model's own counter and script move on (logs 25 and 28). -/
def State.tick (s : State) : State := { s with now := s.now + 1, script := s.script.tail }

end Sys2Proof.Machine
end

