-- ==== Sys2Proof/Machine/Flags.lean ====
section
/-! DEFINITION. Sys2Proof/Machine/Flags.lean: the SPU has no flags (R29); what other machines keep in flags stands in
general registers: compare masks (R270), carries and borrows (R156, R157, R163, R164). And the FPSCR (R31, R378). -/

namespace Sys2Proof.Machine

/-- The mask of a compare: all ones when the relation holds, else zero (R270 a). -/
def mask8 (b : Bool) : Byte := rep 8 b
/-- The mask of a halfword compare (R270 a). -/
def mask16 (b : Bool) : Half := rep 16 b
/-- The mask of a word compare (R270 a). -/
def mask32 (b : Bool) : Word := rep 32 b

/-- Signed greater than (R270 b). -/
def gtS {n : Nat} (x y : BitVec n) : Bool := decide (x.toInt > y.toInt)
/-- Unsigned greater than (R270 b). -/
def gtU {n : Nat} (x y : BitVec n) : Bool := decide (x.toNat > y.toNat)

/-- The least significant bit of a word as a number: the carry in, or "no borrow in" (R155, R162). -/
def bit0 (w : Word) : Nat := w.toNat % 2

/-- One or zero in a word. -/
def bitWord (b : Bool) : Word := if b then 1#32 else 0#32

/-- The carry out of `x + y + c` (R156, R157). -/
def carryOut (x y : Word) (c : Nat) : Word := bitWord (decide (x.toNat + y.toNat + c ≥ 2 ^ 32))

/-- 1 when `y - x - (1 - c)` needs no borrow, on exact unsigned integers, else 0 (R163, R164). -/
def noBorrow (x y : Word) (c : Nat) : Word := bitWord (decide ((y.toNat : Int) - x.toNat - (1 - c) ≥ 0))

/-- The FPSCR after a floating-point instruction (R378; log 22). -/
def State.fpscrNext (s : State) (op : Config.FpOp) (inputs : List Quad) : Quad :=
  Config.fpscrAfter op inputs s.fpscr &&& Config.fpscrMask

/-- Writes the FPSCR, of which only the bits of FPSCR_MASK hold state (R384; log 20). -/
def State.setFpscr (s : State) (v : Quad) : State := { s with fpscr := v &&& Config.fpscrMask }

/-- The end of a floating-point instruction: result register, FPSCR, next instruction (R378). -/
def State.fpRetire (s : State) (op : Config.FpOp) (inputs : List Quad) (rt : Reg) (v : Quad) : State :=
  { s.retire rt v with fpscr := s.fpscrNext op inputs }

end Sys2Proof.Machine
end

