-- ==== Sys2Proof/Machine/Masks.lean ====
section
/-! DEFINITION. Sys2Proof/Machine/Masks.lean: select masks made of bits and bits gathered from elements (R146, R179 to R184;
log 17). The most significant bit belongs to element 0. -/

namespace Sys2Proof.Machine

/-- One byte of ones or zeros for each of 16 bits (R146, R181). -/
def bitMask8 (m : Half) : Quad := ofBytes fun k => rep 8 (m.getLsbD (15 - k))
/-- One halfword for each of the 8 least significant bits of word element 0 (R180). -/
def bitMask16 (q : Quad) : Quad := ofHalves fun k => rep 16 ((wordOf q 0).getLsbD (7 - k))
/-- One word for each of the 4 least significant bits of word element 0 (R179). -/
def bitMask32 (q : Quad) : Quad := ofWords fun k => rep 32 ((wordOf q 0).getLsbD (3 - k))

/-- The bits `f 0` to `f (n - 1)` as a number, `f 0` the most significant (R182 to R184). -/
def gatherNat (f : Nat → Bool) : Nat → Nat
  | 0 => 0
  | n + 1 => 2 * gatherNat f n + (f n).toNat

/-- The gathered bits in a word. -/
def gather (f : Nat → Bool) (n : Nat) : Word := BitVec.ofNat 32 (gatherNat f n)

end Sys2Proof.Machine
end

