-- ==== Sys2Proof/Machine/Operands.lean ====
section
/-! DEFINITION. Sys2Proof/Machine/Operands.lean: the operand forms: effective addresses (R120), branch targets (R300),
immediates (R71), shift counts (R231 to R261), insertion controls (R129) and shuffle selectors (R220). -/

namespace Sys2Proof.Machine

/-! ## Immediates -/

/-- `sext_32` (R8). -/
def sext32 {n : Nat} (v : BitVec n) : Word := v.signExtend 32
/-- `sext_16` (R8). -/
def sext16 {n : Nat} (v : BitVec n) : Half := v.signExtend 16
/-- `zext_32` (R8). -/
def zext32 {n : Nat} (v : BitVec n) : Word := v.zeroExtend 32

/-- The displacement of the d-form: `sext_32(s14)`, of which the four least significant bits are ignored (R120). -/
def dispD (s14 : BitVec 14) : Word := sext32 s14 &&& ~~~0xF#32

/-- An address or offset `s18`: `sext_32(s18)`, of which the two least significant bits are ignored (R120, R300). -/
def off18 (s18 : BitVec 18) : Word := sext32 s18 &&& ~~~3#32

/-! ## Effective addresses (R120) and branch targets (R300) -/

/-- d-form. -/
def State.eaD (s : State) (s14 : BitVec 14) (ra : Reg) : Word := s.reg0 ra + dispD s14
/-- x-form. -/
def State.eaX (s : State) (ra rb : Reg) : Word := s.reg0 ra + s.reg0 rb
/-- Instruction-relative a-form, and the target of a relative branch (R300 b). The a-form itself, and the target of an
absolute branch (R300 c), is `off18`. -/
def State.eaRel (s : State) (s18 : BitVec 18) : Word := s.pc + off18 s18

/-! ## Shift counts

A shift of a `BitVec` by its width or more leaves zero, or copies of the sign bit, as D27 says (log 18). -/

/-- `(0 - v)` and its `n` least significant bits, the count of the rotate-and-mask forms (R249 to R261; log
37 for the five bits of s6 and the three of s3). -/
def negCount {w : Nat} (n : Nat) (v : BitVec w) : Nat := (0#w - v).toNat % 2 ^ n
/-- The `n` least significant bits as a count. -/
def lowCount {w : Nat} (n : Nat) (v : BitVec w) : Nat := v.toNat % 2 ^ n
/-- `(0 - v[7:3])[4:0]` of R260: the field is taken first and then negated. -/
def negByteCount (v : Word) : Nat := negCount 5 (v.extractLsb' 3 5)

/-! ## Insertion controls (R129; log 17) -/

/-- The control mask for a field of `n` bytes at position `p` of a quadword; `first` is the number of the byte of the
scalar position. Byte `k` is `first + (k - p')` inside the field and `0x10 + k` outside. -/
def insertMask (n first p : Nat) : Quad :=
  let p' := p % 16 / n * n
  ofBytes fun k => if p' ≤ k ∧ k < p' + n then BitVec.ofNat 8 (first + (k - p')) else BitVec.ofNat 8 (0x10 + k)

/-- R129 with n = 1: the scalar is byte element 3. -/
def insertByte (ea : Word) : Quad := insertMask 1 3 ea.toNat
/-- R129 with n = 2: the scalar is halfword element 1. -/
def insertHalf (ea : Word) : Quad := insertMask 2 2 ea.toNat
/-- R129 with n = 4: the scalar is word element 0. -/
def insertWord (ea : Word) : Quad := insertMask 4 0 ea.toNat
/-- R129 with n = 8: the scalar is doubleword element 0. -/
def insertDWord (ea : Word) : Quad := insertMask 8 0 ea.toNat

/-! ## Shuffle (R220; log 17) -/

/-- The byte that the selector `c` takes from the 32 bytes of `x || y`, or its constant. -/
def shuffleByte (x y : Quad) (c : Byte) : Byte :=
  if c.extractLsb' 6 2 = 0b10#2 then 0x00#8
  else if c.extractLsb' 5 3 = 0b110#3 then 0xFF#8
  else if c.extractLsb' 5 3 = 0b111#3 then 0x80#8
  else if lowCount 5 c < 16 then byteOf x (lowCount 5 c) else byteOf y (lowCount 5 c - 16)

/-- `shufb` on three quadwords. -/
def shuffle (x y c : Quad) : Quad := ofBytes fun k => shuffleByte x y (byteOf c k)

end Sys2Proof.Machine
end

