-- ==== Sys2Proof/Syntax.lean ====
section
/-! DEFINITION. Sys2Proof/Syntax.lean: the 212 instructions of the opcode table (R80), one constructor per row, in the
table's order, with the operands of the full assembly statement in the statement's order (R74, R75). An immediate is
the bit vector of its notation (R71): s10 is 10 bits, s18 is 18 bits; s3 s6 s7 u3 u5 u6 u7 are the 7 bits of their field
(R79), and scale7 is kept in 8 bits so that every word of the RI8 format has an operand (log 12). -/

namespace Sys2Proof

/-- The instruction set (R1, R80). -/
inductive Instr where
  -- Loads, stores and insertion controls (41_load_store.md)
  /-- `lqd rt, s14(ra)` (R121). -/
  | lqd (rt : Reg) (s14 : BitVec 14) (ra : Reg)
  /-- `lqx rt, ra, rb` (R122). -/
  | lqx (rt ra rb : Reg)
  /-- `lqa rt, s18` (R123). -/
  | lqa (rt : Reg) (s18 : BitVec 18)
  /-- `lqr rt, s18` (R124). -/
  | lqr (rt : Reg) (s18 : BitVec 18)
  /-- `stqd rc, s14(ra)` (R125). -/
  | stqd (rc : Reg) (s14 : BitVec 14) (ra : Reg)
  /-- `stqx rc, ra, rb` (R126). -/
  | stqx (rc ra rb : Reg)
  /-- `stqa rc, s18` (R127). -/
  | stqa (rc : Reg) (s18 : BitVec 18)
  /-- `stqr rc, s18` (R128). -/
  | stqr (rc : Reg) (s18 : BitVec 18)
  /-- `cbd rt, u7(ra)` (R130). -/
  | cbd (rt : Reg) (u7 : BitVec 7) (ra : Reg)
  /-- `cbx rt, ra, rb` (R131). -/
  | cbx (rt ra rb : Reg)
  /-- `chd rt, u7(ra)` (R132). -/
  | chd (rt : Reg) (u7 : BitVec 7) (ra : Reg)
  /-- `chx rt, ra, rb` (R133). -/
  | chx (rt ra rb : Reg)
  /-- `cwd rt, u7(ra)` (R134). -/
  | cwd (rt : Reg) (u7 : BitVec 7) (ra : Reg)
  /-- `cwx rt, ra, rb` (R135). -/
  | cwx (rt ra rb : Reg)
  /-- `cdd rt, u7(ra)` (R136). -/
  | cdd (rt : Reg) (u7 : BitVec 7) (ra : Reg)
  /-- `cdx rt, ra, rb` (R137). -/
  | cdx (rt ra rb : Reg)
  -- Constant formation (42_constant_formation.md)
  /-- `il rt, s16` (R141). -/
  | il (rt : Reg) (s16 : BitVec 16)
  /-- `ila rt, u18` (R142). -/
  | ila (rt : Reg) (u18 : BitVec 18)
  /-- `ilh rt, u16` (R143). -/
  | ilh (rt : Reg) (u16 : BitVec 16)
  /-- `ilhu rt, u16` (R144). -/
  | ilhu (rt : Reg) (u16 : BitVec 16)
  /-- `iohl rt, u16` (R145). -/
  | iohl (rt : Reg) (u16 : BitVec 16)
  /-- `fsmbi rt, u16` (R146). -/
  | fsmbi (rt : Reg) (u16 : BitVec 16)
  -- Integer arithmetic (43_integer_arithmetic.md)
  /-- `a rt, ra, rb` (R151). -/
  | a (rt ra rb : Reg)
  /-- `ah rt, ra, rb` (R152). -/
  | ah (rt ra rb : Reg)
  /-- `ahi rt, ra, s10` (R153). -/
  | ahi (rt ra : Reg) (s10 : BitVec 10)
  /-- `ai rt, ra, s10` (R154). -/
  | ai (rt ra : Reg) (s10 : BitVec 10)
  /-- `addx rt, ra, rb` (R155). -/
  | addx (rt ra rb : Reg)
  /-- `cg rt, ra, rb` (R156). -/
  | cg (rt ra rb : Reg)
  /-- `cgx rt, ra, rb` (R157). -/
  | cgx (rt ra rb : Reg)
  /-- `sf rt, ra, rb` (R158). -/
  | sf (rt ra rb : Reg)
  /-- `sfh rt, ra, rb` (R159). -/
  | sfh (rt ra rb : Reg)
  /-- `sfhi rt, ra, s10` (R160). -/
  | sfhi (rt ra : Reg) (s10 : BitVec 10)
  /-- `sfi rt, ra, s10` (R161). -/
  | sfi (rt ra : Reg) (s10 : BitVec 10)
  /-- `sfx rt, ra, rb` (R162). -/
  | sfx (rt ra rb : Reg)
  /-- `bg rt, ra, rb` (R163). -/
  | bg (rt ra rb : Reg)
  /-- `bgx rt, ra, rb` (R164). -/
  | bgx (rt ra rb : Reg)
  /-- `mpy rt, ra, rb` (R166). -/
  | mpy (rt ra rb : Reg)
  /-- `mpyu rt, ra, rb` (R167). -/
  | mpyu (rt ra rb : Reg)
  /-- `mpyi rt, ra, s10` (R168). -/
  | mpyi (rt ra : Reg) (s10 : BitVec 10)
  /-- `mpyui rt, ra, s10` (R169). -/
  | mpyui (rt ra : Reg) (s10 : BitVec 10)
  /-- `mpya rt, ra, rb, rc` (R170). -/
  | mpya (rt ra rb rc : Reg)
  /-- `mpyh rt, ra, rb` (R171). -/
  | mpyh (rt ra rb : Reg)
  /-- `mpys rt, ra, rb` (R172). -/
  | mpys (rt ra rb : Reg)
  /-- `mpyhh rt, ra, rb` (R173). -/
  | mpyhh (rt ra rb : Reg)
  /-- `mpyhha rt, ra, rb` (R174). -/
  | mpyhha (rt ra rb : Reg)
  /-- `mpyhhu rt, ra, rb` (R175). -/
  | mpyhhu (rt ra rb : Reg)
  /-- `mpyhhau rt, ra, rb` (R176). -/
  | mpyhhau (rt ra rb : Reg)
  /-- `clz rt, ra` (R177). -/
  | clz (rt ra : Reg)
  /-- `cntb rt, ra` (R178). -/
  | cntb (rt ra : Reg)
  /-- `fsm rt, ra` (R179). -/
  | fsm (rt ra : Reg)
  /-- `fsmh rt, ra` (R180). -/
  | fsmh (rt ra : Reg)
  /-- `fsmb rt, ra` (R181). -/
  | fsmb (rt ra : Reg)
  /-- `gb rt, ra` (R182). -/
  | gb (rt ra : Reg)
  /-- `gbh rt, ra` (R183). -/
  | gbh (rt ra : Reg)
  /-- `gbb rt, ra` (R184). -/
  | gbb (rt ra : Reg)
  /-- `avgb rt, ra, rb` (R185). -/
  | avgb (rt ra rb : Reg)
  /-- `absdb rt, ra, rb` (R186). -/
  | absdb (rt ra rb : Reg)
  /-- `sumb rt, ra, rb` (R187). -/
  | sumb (rt ra rb : Reg)
  /-- `xsbh rt, ra` (R188). -/
  | xsbh (rt ra : Reg)
  /-- `xshw rt, ra` (R189). -/
  | xshw (rt ra : Reg)
  /-- `xswd rt, ra` (R190). -/
  | xswd (rt ra : Reg)
  -- Logical (44_logical.md)
  /-- `and rt, ra, rb` (R201). -/
  | and (rt ra rb : Reg)
  /-- `andc rt, ra, rb` (R202). -/
  | andc (rt ra rb : Reg)
  /-- `andbi rt, ra, s10` (R203). -/
  | andbi (rt ra : Reg) (s10 : BitVec 10)
  /-- `andhi rt, ra, s10` (R204). -/
  | andhi (rt ra : Reg) (s10 : BitVec 10)
  /-- `andi rt, ra, s10` (R205). -/
  | andi (rt ra : Reg) (s10 : BitVec 10)
  /-- `or rt, ra, rb` (R206). -/
  | or (rt ra rb : Reg)
  /-- `orc rt, ra, rb` (R207). -/
  | orc (rt ra rb : Reg)
  /-- `orbi rt, ra, s10` (R208). -/
  | orbi (rt ra : Reg) (s10 : BitVec 10)
  /-- `orhi rt, ra, s10` (R209). -/
  | orhi (rt ra : Reg) (s10 : BitVec 10)
  /-- `ori rt, ra, s10` (R210). -/
  | ori (rt ra : Reg) (s10 : BitVec 10)
  /-- `orx rt, ra` (R211). -/
  | orx (rt ra : Reg)
  /-- `xor rt, ra, rb` (R212). -/
  | xor (rt ra rb : Reg)
  /-- `xorbi rt, ra, s10` (R213). -/
  | xorbi (rt ra : Reg) (s10 : BitVec 10)
  /-- `xorhi rt, ra, s10` (R214). -/
  | xorhi (rt ra : Reg) (s10 : BitVec 10)
  /-- `xori rt, ra, s10` (R215). -/
  | xori (rt ra : Reg) (s10 : BitVec 10)
  /-- `nand rt, ra, rb` (R216). -/
  | nand (rt ra rb : Reg)
  /-- `nor rt, ra, rb` (R217). -/
  | nor (rt ra rb : Reg)
  /-- `eqv rt, ra, rb` (R218). -/
  | eqv (rt ra rb : Reg)
  /-- `selb rt, ra, rb, rc` (R219). -/
  | selb (rt ra rb rc : Reg)
  /-- `shufb rt, ra, rb, rc` (R220). -/
  | shufb (rt ra rb rc : Reg)
  -- Shifts and rotates (45_shift_rotate.md)
  /-- `shl rt, ra, rb` (R231). -/
  | shl (rt ra rb : Reg)
  /-- `shlh rt, ra, rb` (R232). -/
  | shlh (rt ra rb : Reg)
  /-- `shlhi rt, ra, u5` (R233). -/
  | shlhi (rt ra : Reg) (u5 : BitVec 7)
  /-- `shli rt, ra, u6` (R234). -/
  | shli (rt ra : Reg) (u6 : BitVec 7)
  /-- `shlqbi rt, ra, rb` (R235). -/
  | shlqbi (rt ra rb : Reg)
  /-- `shlqbii rt, ra, u3` (R236). -/
  | shlqbii (rt ra : Reg) (u3 : BitVec 7)
  /-- `shlqby rt, ra, rb` (R237). -/
  | shlqby (rt ra rb : Reg)
  /-- `shlqbybi rt, ra, rb` (R238). -/
  | shlqbybi (rt ra rb : Reg)
  /-- `shlqbyi rt, ra, u5` (R239). -/
  | shlqbyi (rt ra : Reg) (u5 : BitVec 7)
  /-- `rot rt, ra, rb` (R240). -/
  | rot (rt ra rb : Reg)
  /-- `roth rt, ra, rb` (R241). -/
  | roth (rt ra rb : Reg)
  /-- `rothi rt, ra, s7` (R242). -/
  | rothi (rt ra : Reg) (s7 : BitVec 7)
  /-- `roti rt, ra, s7` (R243). -/
  | roti (rt ra : Reg) (s7 : BitVec 7)
  /-- `rotqbi rt, ra, rb` (R244). -/
  | rotqbi (rt ra rb : Reg)
  /-- `rotqbii rt, ra, u3` (R245). -/
  | rotqbii (rt ra : Reg) (u3 : BitVec 7)
  /-- `rotqby rt, ra, rb` (R246). -/
  | rotqby (rt ra rb : Reg)
  /-- `rotqbybi rt, ra, rb` (R247). -/
  | rotqbybi (rt ra rb : Reg)
  /-- `rotqbyi rt, ra, s7` (R248). -/
  | rotqbyi (rt ra : Reg) (s7 : BitVec 7)
  /-- `rotm rt, ra, rb` (R249). -/
  | rotm (rt ra rb : Reg)
  /-- `rotmi rt, ra, s7` (R250). -/
  | rotmi (rt ra : Reg) (s7 : BitVec 7)
  /-- `rothm rt, ra, rb` (R251). -/
  | rothm (rt ra rb : Reg)
  /-- `rothmi rt, ra, s6` (R252). -/
  | rothmi (rt ra : Reg) (s6 : BitVec 7)
  /-- `rotma rt, ra, rb` (R253). -/
  | rotma (rt ra rb : Reg)
  /-- `rotmai rt, ra, s7` (R254). -/
  | rotmai (rt ra : Reg) (s7 : BitVec 7)
  /-- `rotmah rt, ra, rb` (R255). -/
  | rotmah (rt ra rb : Reg)
  /-- `rotmahi rt, ra, s6` (R256). -/
  | rotmahi (rt ra : Reg) (s6 : BitVec 7)
  /-- `rotqmbi rt, ra, rb` (R257). -/
  | rotqmbi (rt ra rb : Reg)
  /-- `rotqmbii rt, ra, s3` (R258). -/
  | rotqmbii (rt ra : Reg) (s3 : BitVec 7)
  /-- `rotqmby rt, ra, rb` (R259). -/
  | rotqmby (rt ra rb : Reg)
  /-- `rotqmbybi rt, ra, rb` (R260). -/
  | rotqmbybi (rt ra rb : Reg)
  /-- `rotqmbyi rt, ra, s6` (R261). -/
  | rotqmbyi (rt ra : Reg) (s6 : BitVec 7)
  -- Compares and halts (46_compare_halt.md)
  /-- `ceqb rt, ra, rb` (R271). -/
  | ceqb (rt ra rb : Reg)
  /-- `ceqh rt, ra, rb` (R272). -/
  | ceqh (rt ra rb : Reg)
  /-- `ceq rt, ra, rb` (R273). -/
  | ceq (rt ra rb : Reg)
  /-- `ceqbi rt, ra, s10` (R274). -/
  | ceqbi (rt ra : Reg) (s10 : BitVec 10)
  /-- `ceqhi rt, ra, s10` (R275). -/
  | ceqhi (rt ra : Reg) (s10 : BitVec 10)
  /-- `ceqi rt, ra, s10` (R276). -/
  | ceqi (rt ra : Reg) (s10 : BitVec 10)
  /-- `cgtb rt, ra, rb` (R277). -/
  | cgtb (rt ra rb : Reg)
  /-- `cgth rt, ra, rb` (R278). -/
  | cgth (rt ra rb : Reg)
  /-- `cgt rt, ra, rb` (R279). -/
  | cgt (rt ra rb : Reg)
  /-- `cgtbi rt, ra, s10` (R280). -/
  | cgtbi (rt ra : Reg) (s10 : BitVec 10)
  /-- `cgthi rt, ra, s10` (R281). -/
  | cgthi (rt ra : Reg) (s10 : BitVec 10)
  /-- `cgti rt, ra, s10` (R282). -/
  | cgti (rt ra : Reg) (s10 : BitVec 10)
  /-- `clgtb rt, ra, rb` (R283). -/
  | clgtb (rt ra rb : Reg)
  /-- `clgth rt, ra, rb` (R284). -/
  | clgth (rt ra rb : Reg)
  /-- `clgt rt, ra, rb` (R285). -/
  | clgt (rt ra rb : Reg)
  /-- `clgtbi rt, ra, s10` (R286). -/
  | clgtbi (rt ra : Reg) (s10 : BitVec 10)
  /-- `clgthi rt, ra, s10` (R287). -/
  | clgthi (rt ra : Reg) (s10 : BitVec 10)
  /-- `clgti rt, ra, s10` (R288). -/
  | clgti (rt ra : Reg) (s10 : BitVec 10)
  /-- `heq rt, ra, rb` (R290). -/
  | heq (rt ra rb : Reg)
  /-- `heqi rt, ra, s10` (R291). -/
  | heqi (rt ra : Reg) (s10 : BitVec 10)
  /-- `hgt rt, ra, rb` (R292). -/
  | hgt (rt ra rb : Reg)
  /-- `hgti rt, ra, s10` (R293). -/
  | hgti (rt ra : Reg) (s10 : BitVec 10)
  /-- `hlgt rt, ra, rb` (R294). -/
  | hlgt (rt ra rb : Reg)
  /-- `hlgti rt, ra, s10` (R295). -/
  | hlgti (rt ra : Reg) (s10 : BitVec 10)
  -- Branches and hints (47_branch_hint.md)
  /-- `br s18` (R302). -/
  | br (s18 : BitVec 18)
  /-- `bra s18` (R303). -/
  | bra (s18 : BitVec 18)
  /-- `brsl rt, s18` (R304). -/
  | brsl (rt : Reg) (s18 : BitVec 18)
  /-- `brasl rt, s18` (R305). -/
  | brasl (rt : Reg) (s18 : BitVec 18)
  /-- `bi ra` (R306). -/
  | bi (ra : Reg)
  /-- `bid ra` (R307). -/
  | bid (ra : Reg)
  /-- `bie ra` (R308). -/
  | bie (ra : Reg)
  /-- `bisl rt, ra` (R309). -/
  | bisl (rt ra : Reg)
  /-- `bisld rt, ra` (R310). -/
  | bisld (rt ra : Reg)
  /-- `bisle rt, ra` (R311). -/
  | bisle (rt ra : Reg)
  /-- `bisled rt, ra` (R312). -/
  | bisled (rt ra : Reg)
  /-- `bisledd rt, ra` (R313). -/
  | bisledd (rt ra : Reg)
  /-- `bislede rt, ra` (R314). -/
  | bislede (rt ra : Reg)
  /-- `iret ra` (R315). -/
  | iret (ra : Reg)
  /-- `iretd ra` (R316). -/
  | iretd (ra : Reg)
  /-- `irete ra` (R317). -/
  | irete (ra : Reg)
  /-- `brz rc, s18` (R318). -/
  | brz (rc : Reg) (s18 : BitVec 18)
  /-- `brnz rc, s18` (R319). -/
  | brnz (rc : Reg) (s18 : BitVec 18)
  /-- `brhz rc, s18` (R320). -/
  | brhz (rc : Reg) (s18 : BitVec 18)
  /-- `brhnz rc, s18` (R321). -/
  | brhnz (rc : Reg) (s18 : BitVec 18)
  /-- `biz rc, ra` (R322). -/
  | biz (rc ra : Reg)
  /-- `bizd rc, ra` (R323). -/
  | bizd (rc ra : Reg)
  /-- `bize rc, ra` (R324). -/
  | bize (rc ra : Reg)
  /-- `binz rc, ra` (R325). -/
  | binz (rc ra : Reg)
  /-- `binzd rc, ra` (R326). -/
  | binzd (rc ra : Reg)
  /-- `binze rc, ra` (R327). -/
  | binze (rc ra : Reg)
  /-- `bihz rc, ra` (R328). -/
  | bihz (rc ra : Reg)
  /-- `bihzd rc, ra` (R329). -/
  | bihzd (rc ra : Reg)
  /-- `bihze rc, ra` (R330). -/
  | bihze (rc ra : Reg)
  /-- `bihnz rc, ra` (R331). -/
  | bihnz (rc ra : Reg)
  /-- `bihnzd rc, ra` (R332). -/
  | bihnzd (rc ra : Reg)
  /-- `bihnze rc, ra` (R333). -/
  | bihnze (rc ra : Reg)
  /-- `hbr s11, ra` (R335). -/
  | hbr (s11 : BitVec 11) (ra : Reg)
  /-- `hbra s11, s18` (R336). -/
  | hbra (s11 : BitVec 11) (s18 : BitVec 18)
  /-- `hbrr s11, s18` (R337). -/
  | hbrr (s11 : BitVec 11) (s18 : BitVec 18)
  /-- `hbrp` (R338). -/
  | hbrp
  -- Floating point (48_floating_point.md)
  /-- `fa rt, ra, rb` (R352). -/
  | fa (rt ra rb : Reg)
  /-- `fs rt, ra, rb` (R353). -/
  | fs (rt ra rb : Reg)
  /-- `fm rt, ra, rb` (R354). -/
  | fm (rt ra rb : Reg)
  /-- `fma rt, ra, rb, rc` (R355). -/
  | fma (rt ra rb rc : Reg)
  /-- `fms rt, ra, rb, rc` (R356). -/
  | fms (rt ra rb rc : Reg)
  /-- `fnms rt, ra, rb, rc` (R357). -/
  | fnms (rt ra rb rc : Reg)
  /-- `dfa rt, ra, rb` (R358). -/
  | dfa (rt ra rb : Reg)
  /-- `dfs rt, ra, rb` (R359). -/
  | dfs (rt ra rb : Reg)
  /-- `dfm rt, ra, rb` (R360). -/
  | dfm (rt ra rb : Reg)
  /-- `dfma rt, ra, rb` (R361). -/
  | dfma (rt ra rb : Reg)
  /-- `dfms rt, ra, rb` (R362). -/
  | dfms (rt ra rb : Reg)
  /-- `dfnms rt, ra, rb` (R363). -/
  | dfnms (rt ra rb : Reg)
  /-- `dfnma rt, ra, rb` (R364). -/
  | dfnma (rt ra rb : Reg)
  /-- `frest rt, ra` (R365). -/
  | frest (rt ra : Reg)
  /-- `frsqest rt, ra` (R366). -/
  | frsqest (rt ra : Reg)
  /-- `fi rt, ra, rb` (R367). -/
  | fi (rt ra rb : Reg)
  /-- `fesd rt, ra` (R368). -/
  | fesd (rt ra : Reg)
  /-- `frds rt, ra` (R369). -/
  | frds (rt ra : Reg)
  /-- `cflts rt, ra, scale7` (R370). -/
  | cflts (rt ra : Reg) (scale7 : BitVec 8)
  /-- `cfltu rt, ra, scale7` (R371). -/
  | cfltu (rt ra : Reg) (scale7 : BitVec 8)
  /-- `csflt rt, ra, scale7` (R372). -/
  | csflt (rt ra : Reg) (scale7 : BitVec 8)
  /-- `cuflt rt, ra, scale7` (R373). -/
  | cuflt (rt ra : Reg) (scale7 : BitVec 8)
  /-- `fceq rt, ra, rb` (R374). -/
  | fceq (rt ra rb : Reg)
  /-- `fcmeq rt, ra, rb` (R375). -/
  | fcmeq (rt ra rb : Reg)
  /-- `fcgt rt, ra, rb` (R376). -/
  | fcgt (rt ra rb : Reg)
  /-- `fcmgt rt, ra, rb` (R377). -/
  | fcmgt (rt ra rb : Reg)
  /-- `fscrrd rt` (R383). -/
  | fscrrd (rt : Reg)
  /-- `fscrwr rc, ra` (R384). -/
  | fscrwr (rc ra : Reg)
  -- Control, synchronisation, special registers, channels (49_control_channel.md)
  /-- `stop u14` (R391). -/
  | stop (u14 : BitVec 14)
  /-- `stopd ra, rb, rc` (R392). -/
  | stopd (ra rb rc : Reg)
  /-- `lnop` (R393). -/
  | lnop
  /-- `nop rt` (R394). -/
  | nop (rt : Reg)
  /-- `sync` (R395). -/
  | sync
  /-- `syncc` (R396). -/
  | syncc
  /-- `dsync` (R397). -/
  | dsync
  /-- `mfspr rt, spr` (R398). -/
  | mfspr (rt : Reg) (spr : SprNum)
  /-- `mtspr spr, ra` (R399). -/
  | mtspr (spr : SprNum) (ra : Reg)
  /-- `rdch rt, ch` (R400). -/
  | rdch (rt : Reg) (ch : Chan)
  /-- `rchcnt rt, ch` (R401). -/
  | rchcnt (rt : Reg) (ch : Chan)
  /-- `wrch ch, ra` (R402). -/
  | wrch (ch : Chan) (ra : Reg)
  deriving DecidableEq, Repr

end Sys2Proof
end

