-- ==== Sys2Proof/Machine/Arith.lean ====
section
/-! DEFINITION. Sys2Proof/Machine/Arith.lean: integer arithmetic (43_integer_arithmetic.md). -/

namespace Sys2Proof.Machine

/-- `a rt, ra, rb` (R151). -/
def execA (rt ra rb : Reg) (s : State) : Result := .next (s.retire rt (mapWords2 (· + ·) (s.reg ra) (s.reg rb)))

/-- `ah rt, ra, rb` (R152). -/
def execAh (rt ra rb : Reg) (s : State) : Result := .next (s.retire rt (mapHalves2 (· + ·) (s.reg ra) (s.reg rb)))

/-- `ahi rt, ra, s10` (R153). -/
def execAhi (rt ra : Reg) (s10 : BitVec 10) (s : State) : Result :=
  .next (s.retire rt (mapHalves (· + sext16 s10) (s.reg ra)))

/-- `ai rt, ra, s10` (R154). -/
def execAi (rt ra : Reg) (s10 : BitVec 10) (s : State) : Result :=
  .next (s.retire rt (mapWords (· + sext32 s10) (s.reg ra)))

/-- `addx rt, ra, rb` (R155): the carry in is bit 0 of the old target word. -/
def execAddx (rt ra rb : Reg) (s : State) : Result :=
  .next (s.retire rt (mapWords3 (fun x y t => x + y + BitVec.ofNat 32 (bit0 t)) (s.reg ra) (s.reg rb) (s.reg rt)))

/-- `cg rt, ra, rb` (R156). -/
def execCg (rt ra rb : Reg) (s : State) : Result :=
  .next (s.retire rt (mapWords2 (fun x y => carryOut x y 0) (s.reg ra) (s.reg rb)))

/-- `cgx rt, ra, rb` (R157). -/
def execCgx (rt ra rb : Reg) (s : State) : Result :=
  .next (s.retire rt (mapWords3 (fun x y t => carryOut x y (bit0 t)) (s.reg ra) (s.reg rb) (s.reg rt)))

/-- `sf rt, ra, rb` (R158): `rb` minus `ra`. -/
def execSf (rt ra rb : Reg) (s : State) : Result :=
  .next (s.retire rt (mapWords2 (fun x y => y - x) (s.reg ra) (s.reg rb)))

/-- `sfh rt, ra, rb` (R159): `rb` minus `ra` on halfwords (C3). -/
def execSfh (rt ra rb : Reg) (s : State) : Result :=
  .next (s.retire rt (mapHalves2 (fun x y => y - x) (s.reg ra) (s.reg rb)))

/-- `sfhi rt, ra, s10` (R160). -/
def execSfhi (rt ra : Reg) (s10 : BitVec 10) (s : State) : Result :=
  .next (s.retire rt (mapHalves (sext16 s10 - ·) (s.reg ra)))

/-- `sfi rt, ra, s10` (R161). -/
def execSfi (rt ra : Reg) (s10 : BitVec 10) (s : State) : Result :=
  .next (s.retire rt (mapWords (sext32 s10 - ·) (s.reg ra)))

/-- `sfx rt, ra, rb` (R162): bit 0 of the old target word is 1 for no borrow in. -/
def execSfx (rt ra rb : Reg) (s : State) : Result :=
  .next (s.retire rt (mapWords3 (fun x y t => y - x - BitVec.ofNat 32 (1 - bit0 t)) (s.reg ra) (s.reg rb) (s.reg rt)))

/-- `bg rt, ra, rb` (R163). -/
def execBg (rt ra rb : Reg) (s : State) : Result :=
  .next (s.retire rt (mapWords2 (fun x y => noBorrow x y 1) (s.reg ra) (s.reg rb)))

/-- `bgx rt, ra, rb` (R164). -/
def execBgx (rt ra rb : Reg) (s : State) : Result :=
  .next (s.retire rt (mapWords3 (fun x y t => noBorrow x y (bit0 t)) (s.reg ra) (s.reg rb) (s.reg rt)))

/-- A signed product of halfwords, exact in 32 bits (R165). -/
def mulS (x y : Half) : Word := BitVec.ofInt 32 (x.toInt * y.toInt)

/-- An unsigned product of halfwords, exact in 32 bits (R165). -/
def mulU (x y : Half) : Word := BitVec.ofNat 32 (x.toNat * y.toNat)

/-- The product that `mpys` keeps the upper half of: which halves it multiplies is MPYS_HALF (R172 a, D24; log 15). -/
def mpysProduct (x y : Word) : Word :=
  match Config.mpysHalf with
  | .high => mulS (hi16 x) (hi16 y)
  | .low => mulS (lo16 x) (lo16 y)

/-- `mpy rt, ra, rb` (R166). -/
def execMpy (rt ra rb : Reg) (s : State) : Result :=
  .next (s.retire rt (mapWords2 (fun x y => mulS (lo16 x) (lo16 y)) (s.reg ra) (s.reg rb)))

/-- `mpyu rt, ra, rb` (R167). -/
def execMpyu (rt ra rb : Reg) (s : State) : Result :=
  .next (s.retire rt (mapWords2 (fun x y => mulU (lo16 x) (lo16 y)) (s.reg ra) (s.reg rb)))

/-- `mpyi rt, ra, s10` (R168). -/
def execMpyi (rt ra : Reg) (s10 : BitVec 10) (s : State) : Result :=
  .next (s.retire rt (mapWords (fun x => mulS (lo16 x) (sext16 s10)) (s.reg ra)))

/-- `mpyui rt, ra, s10` (R169): the immediate is sign-extended to 16 bits, then unsigned. -/
def execMpyui (rt ra : Reg) (s10 : BitVec 10) (s : State) : Result :=
  .next (s.retire rt (mapWords (fun x => mulU (lo16 x) (sext16 s10)) (s.reg ra)))

/-- `mpya rt, ra, rb, rc` (R170). -/
def execMpya (rt ra rb rc : Reg) (s : State) : Result :=
  .next (s.retire rt (mapWords3 (fun x y z => mulS (lo16 x) (lo16 y) + z) (s.reg ra) (s.reg rb) (s.reg rc)))

/-- `mpyh rt, ra, rb` (R171): the low 16 bits of the product, shifted left by 16. -/
def execMpyh (rt ra rb : Reg) (s : State) : Result :=
  .next (s.retire rt (mapWords2 (fun x y => lo16 (mulU (hi16 x) (lo16 y)) ++ 0#16) (s.reg ra) (s.reg rb)))

/-- `mpys rt, ra, rb` (R172): (log 16). -/
def execMpys (rt ra rb : Reg) (s : State) : Result :=
  .next (s.retire rt (mapWords2 (fun x y => sext32 (hi16 (mpysProduct x y))) (s.reg ra) (s.reg rb)))

/-- `mpyhh rt, ra, rb` (R173). -/
def execMpyhh (rt ra rb : Reg) (s : State) : Result :=
  .next (s.retire rt (mapWords2 (fun x y => mulS (hi16 x) (hi16 y)) (s.reg ra) (s.reg rb)))

/-- `mpyhha rt, ra, rb` (R174). -/
def execMpyhha (rt ra rb : Reg) (s : State) : Result :=
  .next (s.retire rt (mapWords3 (fun x y t => mulS (hi16 x) (hi16 y) + t) (s.reg ra) (s.reg rb) (s.reg rt)))

/-- `mpyhhu rt, ra, rb` (R175). -/
def execMpyhhu (rt ra rb : Reg) (s : State) : Result :=
  .next (s.retire rt (mapWords2 (fun x y => mulU (hi16 x) (hi16 y)) (s.reg ra) (s.reg rb)))

/-- `mpyhhau rt, ra, rb` (R176). -/
def execMpyhhau (rt ra rb : Reg) (s : State) : Result :=
  .next (s.retire rt (mapWords3 (fun x y t => mulU (hi16 x) (hi16 y) + t) (s.reg ra) (s.reg rb) (s.reg rt)))

/-- The number of leading zero bits of a value given as bits, the most significant first. -/
def leadingZeros : List Bool → Nat
  | [] => 0
  | b :: bs => if b then 0 else leadingZeros bs + 1

/-- The bits of a value, the most significant first. -/
def msbFirst {n : Nat} (v : BitVec n) : List Bool := (List.range n).map fun i => v.getLsbD (n - 1 - i)

/-- The number of 1 bits. -/
def popCount {n : Nat} (v : BitVec n) : Nat := (msbFirst v).countP id

/-- `clz rt, ra` (R177): 32 for a zero word (log 17). -/
def execClz (rt ra : Reg) (s : State) : Result :=
  .next (s.retire rt (mapWords (fun x => BitVec.ofNat 32 (leadingZeros (msbFirst x))) (s.reg ra)))

/-- `cntb rt, ra` (R178). -/
def execCntb (rt ra : Reg) (s : State) : Result :=
  .next (s.retire rt (mapBytes (fun x => BitVec.ofNat 8 (popCount x)) (s.reg ra)))

/-- `fsm rt, ra` (R179). -/
def execFsm (rt ra : Reg) (s : State) : Result := .next (s.retire rt (bitMask32 (s.reg ra)))

/-- `fsmh rt, ra` (R180). -/
def execFsmh (rt ra : Reg) (s : State) : Result := .next (s.retire rt (bitMask16 (s.reg ra)))

/-- `fsmb rt, ra` (R181). -/
def execFsmb (rt ra : Reg) (s : State) : Result := .next (s.retire rt (bitMask8 (lo16 (s.reg0 ra))))

/-- `gb rt, ra` (R182). -/
def execGb (rt ra : Reg) (s : State) : Result :=
  .next (s.retire rt (inWord0 (gather (fun k => (wordOf (s.reg ra) k).getLsbD 0) 4)))

/-- `gbh rt, ra` (R183). -/
def execGbh (rt ra : Reg) (s : State) : Result :=
  .next (s.retire rt (inWord0 (gather (fun k => (halfOf (s.reg ra) k).getLsbD 0) 8)))

/-- `gbb rt, ra` (R184). -/
def execGbb (rt ra : Reg) (s : State) : Result :=
  .next (s.retire rt (inWord0 (gather (fun k => (byteOf (s.reg ra) k).getLsbD 0) 16)))

/-- The rounded average of two unsigned bytes (R185). -/
def avgByte (x y : Byte) : Byte := BitVec.ofNat 8 ((x.toNat + y.toNat + 1) / 2)

/-- The absolute difference of two unsigned bytes (R186). -/
def absDiffByte (x y : Byte) : Byte := if y ≥ x then y - x else x - y

/-- The sum of the four bytes of word element `k` (R187). -/
def sumBytes (q : Quad) (k : Nat) : Half :=
  BitVec.ofNat 16 ((byteOf q (4 * k)).toNat + (byteOf q (4 * k + 1)).toNat + (byteOf q (4 * k + 2)).toNat +
    (byteOf q (4 * k + 3)).toNat)

/-- `avgb rt, ra, rb` (R185). -/
def execAvgb (rt ra rb : Reg) (s : State) : Result := .next (s.retire rt (mapBytes2 avgByte (s.reg ra) (s.reg rb)))

/-- `absdb rt, ra, rb` (R186). -/
def execAbsdb (rt ra rb : Reg) (s : State) : Result :=
  .next (s.retire rt (mapBytes2 absDiffByte (s.reg ra) (s.reg rb)))

/-- `sumb rt, ra, rb` (R187): the sums of `rb` in the even halfwords, of `ra` in the odd ones. -/
def execSumb (rt ra rb : Reg) (s : State) : Result :=
  .next (s.retire rt (ofWords fun k => sumBytes (s.reg rb) k ++ sumBytes (s.reg ra) k))

/-- `xsbh rt, ra` (R188). -/
def execXsbh (rt ra : Reg) (s : State) : Result :=
  .next (s.retire rt (mapHalves (fun x => sext16 (x.extractLsb' 0 8)) (s.reg ra)))

/-- `xshw rt, ra` (R189). -/
def execXshw (rt ra : Reg) (s : State) : Result :=
  .next (s.retire rt (mapWords (fun x => sext32 (lo16 x)) (s.reg ra)))

/-- `xswd rt, ra` (R190): word elements 1 and 3. -/
def execXswd (rt ra : Reg) (s : State) : Result :=
  .next (s.retire rt (ofDWords fun k => (wordOf (s.reg ra) (2 * k + 1)).signExtend 64))

end Sys2Proof.Machine
end

