-- ==== Sys2Proof/Machine/Branch.lean ====
section
/-! DEFINITION. Sys2Proof/Machine/Branch.lean: branches, the return from an interrupt, and hints (47_branch_hint.md). -/

namespace Sys2Proof.Machine

/-- A branch taken when `b` holds, else the next instruction (R300 e). -/
def State.branchIf (s : State) (b : Bool) (target : Word) : State := if b then s.goto target else s.advance

/-- A branch that writes IE when it is taken, and only then (R301). -/
def State.branchIfIe (s : State) (b : Bool) (target : Word) (ie : Bool) : State :=
  if b then (s.goto target).setIe ie else s.advance

/-- The link register, then the target read before it was written (R300 f). -/
def State.callTo (s : State) (rt : Reg) (target : Word) : State := (s.setReg rt s.link).goto target

/-- Whether word element 0 of a register is zero (R318). -/
def State.zeroWord (s : State) (rc : Reg) : Bool := s.reg0 rc == 0#32

/-- Whether halfword element 1 of a register is zero (R320). -/
def State.zeroHalf (s : State) (rc : Reg) : Bool := halfOf (s.reg rc) 1 == 0#16

/-- Whether the count of channel 0 is nonzero (R312). -/
def State.externalData (s : State) : Bool := !(s.chCount 0#7 == 0#32)

/-- `br s18` (R302). -/
def execBr (s18 : BitVec 18) (s : State) : Result := .next (s.goto (s.eaRel s18))

/-- `bra s18` (R303). -/
def execBra (s18 : BitVec 18) (s : State) : Result := .next (s.goto (off18 s18))

/-- `brsl rt, s18` (R304). -/
def execBrsl (rt : Reg) (s18 : BitVec 18) (s : State) : Result := .next (s.callTo rt (s.eaRel s18))

/-- `brasl rt, s18` (R305). -/
def execBrasl (rt : Reg) (s18 : BitVec 18) (s : State) : Result := .next (s.callTo rt (off18 s18))

/-- `bi ra` (R306). -/
def execBi (ra : Reg) (s : State) : Result := .next (s.goto (s.reg0 ra))

/-- `bid ra` (R307). -/
def execBid (ra : Reg) (s : State) : Result := .next ((s.goto (s.reg0 ra)).setIe false)

/-- `bie ra` (R308). -/
def execBie (ra : Reg) (s : State) : Result := .next ((s.goto (s.reg0 ra)).setIe true)

/-- `bisl rt, ra` (R309). -/
def execBisl (rt ra : Reg) (s : State) : Result := .next (s.callTo rt (s.reg0 ra))

/-- `bisld rt, ra` (R310). -/
def execBisld (rt ra : Reg) (s : State) : Result := .next ((s.callTo rt (s.reg0 ra)).setIe false)

/-- `bisle rt, ra` (R311). -/
def execBisle (rt ra : Reg) (s : State) : Result := .next ((s.callTo rt (s.reg0 ra)).setIe true)

/-- `bisled rt, ra` (R312): the link register is written in both outcomes. -/
def execBisled (rt ra : Reg) (s : State) : Result := .next ((s.setReg rt s.link).branchIf s.externalData (s.reg0 ra))

/-- `bisledd rt, ra` (R313): the link register is written in both outcomes. -/
def execBisledd (rt ra : Reg) (s : State) : Result :=
  .next ((s.setReg rt s.link).branchIfIe s.externalData (s.reg0 ra) false)

/-- `bislede rt, ra` (R314): the link register is written in both outcomes. -/
def execBislede (rt ra : Reg) (s : State) : Result :=
  .next ((s.setReg rt s.link).branchIfIe s.externalData (s.reg0 ra) true)

/-- `iret ra` (R315): `ra` is a false source. -/
def execIret (_ra : Reg) (s : State) : Result := .next (s.returnFromInterrupt)

/-- `iretd ra` (R316): `ra` is a false source. -/
def execIretd (_ra : Reg) (s : State) : Result := .next (s.returnFromInterrupt.setIe false)

/-- `irete ra` (R317): `ra` is a false source. -/
def execIrete (_ra : Reg) (s : State) : Result := .next (s.returnFromInterrupt.setIe true)

/-- `brz rc, s18` (R318). -/
def execBrz (rc : Reg) (s18 : BitVec 18) (s : State) : Result := .next (s.branchIf (s.zeroWord rc) (s.eaRel s18))

/-- `brnz rc, s18` (R319). -/
def execBrnz (rc : Reg) (s18 : BitVec 18) (s : State) : Result := .next (s.branchIf (!s.zeroWord rc) (s.eaRel s18))

/-- `brhz rc, s18` (R320). -/
def execBrhz (rc : Reg) (s18 : BitVec 18) (s : State) : Result := .next (s.branchIf (s.zeroHalf rc) (s.eaRel s18))

/-- `brhnz rc, s18` (R321). -/
def execBrhnz (rc : Reg) (s18 : BitVec 18) (s : State) : Result := .next (s.branchIf (!s.zeroHalf rc) (s.eaRel s18))

/-- `biz rc, ra` (R322). -/
def execBiz (rc ra : Reg) (s : State) : Result := .next (s.branchIf (s.zeroWord rc) (s.reg0 ra))

/-- `bizd rc, ra` (R323). -/
def execBizd (rc ra : Reg) (s : State) : Result := .next (s.branchIfIe (s.zeroWord rc) (s.reg0 ra) false)

/-- `bize rc, ra` (R324). -/
def execBize (rc ra : Reg) (s : State) : Result := .next (s.branchIfIe (s.zeroWord rc) (s.reg0 ra) true)

/-- `binz rc, ra` (R325). -/
def execBinz (rc ra : Reg) (s : State) : Result := .next (s.branchIf (!s.zeroWord rc) (s.reg0 ra))

/-- `binzd rc, ra` (R326). -/
def execBinzd (rc ra : Reg) (s : State) : Result := .next (s.branchIfIe (!s.zeroWord rc) (s.reg0 ra) false)

/-- `binze rc, ra` (R327). -/
def execBinze (rc ra : Reg) (s : State) : Result := .next (s.branchIfIe (!s.zeroWord rc) (s.reg0 ra) true)

/-- `bihz rc, ra` (R328). -/
def execBihz (rc ra : Reg) (s : State) : Result := .next (s.branchIf (s.zeroHalf rc) (s.reg0 ra))

/-- `bihzd rc, ra` (R329). -/
def execBihzd (rc ra : Reg) (s : State) : Result := .next (s.branchIfIe (s.zeroHalf rc) (s.reg0 ra) false)

/-- `bihze rc, ra` (R330). -/
def execBihze (rc ra : Reg) (s : State) : Result := .next (s.branchIfIe (s.zeroHalf rc) (s.reg0 ra) true)

/-- `bihnz rc, ra` (R331). -/
def execBihnz (rc ra : Reg) (s : State) : Result := .next (s.branchIf (!s.zeroHalf rc) (s.reg0 ra))

/-- `bihnzd rc, ra` (R332). -/
def execBihnzd (rc ra : Reg) (s : State) : Result := .next (s.branchIfIe (!s.zeroHalf rc) (s.reg0 ra) false)

/-- `bihnze rc, ra` (R333). -/
def execBihnze (rc ra : Reg) (s : State) : Result := .next (s.branchIfIe (!s.zeroHalf rc) (s.reg0 ra) true)

/-- `hbr s11, ra` (R335): a permission to prefetch, no effect (R334; log 35). -/
def execHbr (_s11 : BitVec 11) (_ra : Reg) (s : State) : Result := .next (s.advance)

/-- `hbra s11, s18` (R336): a permission to prefetch, no effect (R334; log 35). -/
def execHbra (_s11 : BitVec 11) (_s18 : BitVec 18) (s : State) : Result := .next (s.advance)

/-- `hbrr s11, s18` (R337): a permission to prefetch, no effect (R334; log 35). -/
def execHbrr (_s11 : BitVec 11) (_s18 : BitVec 18) (s : State) : Result := .next (s.advance)

/-- `hbrp` (R338): a permission to prefetch, no effect (R334; log 35). -/
def execHbrp (s : State) : Result := .next (s.advance)

end Sys2Proof.Machine
end

