-- ==== Sys2Proof/Machine/Compare.lean ====
section
/-! DEFINITION. Sys2Proof/Machine/Compare.lean: compares and halts (46_compare_halt.md). -/

namespace Sys2Proof.Machine

/-- `ceqb rt, ra, rb` (R271). -/
def execCeqb (rt ra rb : Reg) (s : State) : Result :=
  .next (s.retire rt (mapBytes2 (fun x y => mask8 (x == y)) (s.reg ra) (s.reg rb)))

/-- `ceqh rt, ra, rb` (R272). -/
def execCeqh (rt ra rb : Reg) (s : State) : Result :=
  .next (s.retire rt (mapHalves2 (fun x y => mask16 (x == y)) (s.reg ra) (s.reg rb)))

/-- `ceq rt, ra, rb` (R273). -/
def execCeq (rt ra rb : Reg) (s : State) : Result :=
  .next (s.retire rt (mapWords2 (fun x y => mask32 (x == y)) (s.reg ra) (s.reg rb)))

/-- `ceqbi rt, ra, s10` (R274). -/
def execCeqbi (rt ra : Reg) (s10 : BitVec 10) (s : State) : Result :=
  .next (s.retire rt (mapBytes (fun x => mask8 (x == low8 s10)) (s.reg ra)))

/-- `ceqhi rt, ra, s10` (R275). -/
def execCeqhi (rt ra : Reg) (s10 : BitVec 10) (s : State) : Result :=
  .next (s.retire rt (mapHalves (fun x => mask16 (x == sext16 s10)) (s.reg ra)))

/-- `ceqi rt, ra, s10` (R276). -/
def execCeqi (rt ra : Reg) (s10 : BitVec 10) (s : State) : Result :=
  .next (s.retire rt (mapWords (fun x => mask32 (x == sext32 s10)) (s.reg ra)))

/-- `cgtb rt, ra, rb` (R277). -/
def execCgtb (rt ra rb : Reg) (s : State) : Result :=
  .next (s.retire rt (mapBytes2 (fun x y => mask8 (gtS x y)) (s.reg ra) (s.reg rb)))

/-- `cgth rt, ra, rb` (R278). -/
def execCgth (rt ra rb : Reg) (s : State) : Result :=
  .next (s.retire rt (mapHalves2 (fun x y => mask16 (gtS x y)) (s.reg ra) (s.reg rb)))

/-- `cgt rt, ra, rb` (R279). -/
def execCgt (rt ra rb : Reg) (s : State) : Result :=
  .next (s.retire rt (mapWords2 (fun x y => mask32 (gtS x y)) (s.reg ra) (s.reg rb)))

/-- `cgtbi rt, ra, s10` (R280): the comparand is the immediate (C1). -/
def execCgtbi (rt ra : Reg) (s10 : BitVec 10) (s : State) : Result :=
  .next (s.retire rt (mapBytes (fun x => mask8 (gtS x (low8 s10))) (s.reg ra)))

/-- `cgthi rt, ra, s10` (R281). -/
def execCgthi (rt ra : Reg) (s10 : BitVec 10) (s : State) : Result :=
  .next (s.retire rt (mapHalves (fun x => mask16 (gtS x (sext16 s10))) (s.reg ra)))

/-- `cgti rt, ra, s10` (R282). -/
def execCgti (rt ra : Reg) (s10 : BitVec 10) (s : State) : Result :=
  .next (s.retire rt (mapWords (fun x => mask32 (gtS x (sext32 s10))) (s.reg ra)))

/-- `clgtb rt, ra, rb` (R283). -/
def execClgtb (rt ra rb : Reg) (s : State) : Result :=
  .next (s.retire rt (mapBytes2 (fun x y => mask8 (gtU x y)) (s.reg ra) (s.reg rb)))

/-- `clgth rt, ra, rb` (R284). -/
def execClgth (rt ra rb : Reg) (s : State) : Result :=
  .next (s.retire rt (mapHalves2 (fun x y => mask16 (gtU x y)) (s.reg ra) (s.reg rb)))

/-- `clgt rt, ra, rb` (R285). -/
def execClgt (rt ra rb : Reg) (s : State) : Result :=
  .next (s.retire rt (mapWords2 (fun x y => mask32 (gtU x y)) (s.reg ra) (s.reg rb)))

/-- `clgtbi rt, ra, s10` (R286). -/
def execClgtbi (rt ra : Reg) (s10 : BitVec 10) (s : State) : Result :=
  .next (s.retire rt (mapBytes (fun x => mask8 (gtU x (low8 s10))) (s.reg ra)))

/-- `clgthi rt, ra, s10` (R287). -/
def execClgthi (rt ra : Reg) (s10 : BitVec 10) (s : State) : Result :=
  .next (s.retire rt (mapHalves (fun x => mask16 (gtU x (sext16 s10))) (s.reg ra)))

/-- `clgti rt, ra, s10` (R288). -/
def execClgti (rt ra : Reg) (s10 : BitVec 10) (s : State) : Result :=
  .next (s.retire rt (mapWords (fun x => mask32 (gtU x (sext32 s10))) (s.reg ra)))

/-- Halts when the relation holds, else goes on (R289 b, c). The operand `rt` is a false target (R289 d). -/
def State.haltIf (s : State) (b : Bool) : State := if b then s.halt else s.advance

/-- `heq rt, ra, rb` (R290). -/
def execHeq (_rt ra rb : Reg) (s : State) : Result := .next (s.haltIf (s.reg0 ra == s.reg0 rb))

/-- `heqi rt, ra, s10` (R291). -/
def execHeqi (_rt ra : Reg) (s10 : BitVec 10) (s : State) : Result := .next (s.haltIf (s.reg0 ra == sext32 s10))

/-- `hgt rt, ra, rb` (R292). -/
def execHgt (_rt ra rb : Reg) (s : State) : Result := .next (s.haltIf (gtS (s.reg0 ra) (s.reg0 rb)))

/-- `hgti rt, ra, s10` (R293). -/
def execHgti (_rt ra : Reg) (s10 : BitVec 10) (s : State) : Result := .next (s.haltIf (gtS (s.reg0 ra) (sext32 s10)))

/-- `hlgt rt, ra, rb` (R294). -/
def execHlgt (_rt ra rb : Reg) (s : State) : Result := .next (s.haltIf (gtU (s.reg0 ra) (s.reg0 rb)))

/-- `hlgti rt, ra, s10` (R295). -/
def execHlgti (_rt ra : Reg) (s10 : BitVec 10) (s : State) : Result := .next (s.haltIf (gtU (s.reg0 ra) (sext32 s10)))

end Sys2Proof.Machine
end

