-- ==== Sys2Proof/Machine/Constant.lean ====
section
/-! DEFINITION. Sys2Proof/Machine/Constant.lean: constant formation (42_constant_formation.md). -/

namespace Sys2Proof.Machine

/-- `il rt, s16` (R141). -/
def execIl (rt : Reg) (s16 : BitVec 16) (s : State) : Result := .next (s.retire rt (ofWords fun _ => sext32 s16))

/-- `ila rt, u18` (R142). -/
def execIla (rt : Reg) (u18 : BitVec 18) (s : State) : Result := .next (s.retire rt (ofWords fun _ => zext32 u18))

/-- `ilh rt, u16` (R143). -/
def execIlh (rt : Reg) (u16 : BitVec 16) (s : State) : Result := .next (s.retire rt (ofHalves fun _ => u16))

/-- `ilhu rt, u16` (R144): the low halfwords become zero. -/
def execIlhu (rt : Reg) (u16 : BitVec 16) (s : State) : Result := .next (s.retire rt (ofWords fun _ => u16 ++ 0#16))

/-- `iohl rt, u16` (R145). -/
def execIohl (rt : Reg) (u16 : BitVec 16) (s : State) : Result :=
  .next (s.retire rt (mapWords (· ||| zext32 u16) (s.reg rt)))

/-- `fsmbi rt, u16` (R146): the most significant bit of `u16` makes byte element 0 (log 17). -/
def execFsmbi (rt : Reg) (u16 : BitVec 16) (s : State) : Result := .next (s.retire rt (bitMask8 u16))

end Sys2Proof.Machine
end

