-- ==== Sys2Proof/WellFormed.lean ====
section
/-! DEFINITION. Sys2Proof/WellFormed.lean: the check on an instruction before it is encoded (R71, D23; log 12). -/

namespace Sys2Proof

/-- Every immediate of the instruction has a value in its range of R71. An operand without a line of its own fills its
type with that range: s14, s18 and s11 among them, whose low bits a statement may write although they are ignored
(R125; log 13). -/
def Instr.wellFormed : Instr → Bool
  | .shlhi _ _ u5 => decide (u5 < 32#7)
  | .shli _ _ u6 => decide (u6 < 64#7)
  | .shlqbii _ _ u3 => decide (u3 < 8#7)
  | .shlqbyi _ _ u5 => decide (u5 < 32#7)
  | .rotqbii _ _ u3 => decide (u3 < 8#7)
  | .cflts _ _ scale7 => decide (scale7 ≤ 127#8)
  | .cfltu _ _ scale7 => decide (scale7 ≤ 127#8)
  | .csflt _ _ scale7 => decide (scale7 ≤ 127#8)
  | .cuflt _ _ scale7 => decide (scale7 ≤ 127#8)
  | .lqd _ _ _ | .lqx _ _ _ | .lqa _ _ | .lqr _ _ | .stqd _ _ _ | .stqx _ _ _ | .stqa _ _ | .stqr _ _ | .cbd _ _ _
  | .cbx _ _ _ | .chd _ _ _ | .chx _ _ _ | .cwd _ _ _ | .cwx _ _ _ | .cdd _ _ _ | .cdx _ _ _ | .il _ _ | .ila _ _
  | .ilh _ _ | .ilhu _ _ | .iohl _ _ | .fsmbi _ _ | .a _ _ _ | .ah _ _ _ | .ahi _ _ _ | .ai _ _ _ | .addx _ _ _
  | .cg _ _ _ | .cgx _ _ _ | .sf _ _ _ | .sfh _ _ _ | .sfhi _ _ _ | .sfi _ _ _ | .sfx _ _ _ | .bg _ _ _
  | .bgx _ _ _ | .mpy _ _ _ | .mpyu _ _ _ | .mpyi _ _ _ | .mpyui _ _ _ | .mpya _ _ _ _ | .mpyh _ _ _ | .mpys _ _ _
  | .mpyhh _ _ _ | .mpyhha _ _ _ | .mpyhhu _ _ _ | .mpyhhau _ _ _ | .clz _ _ | .cntb _ _ | .fsm _ _ | .fsmh _ _
  | .fsmb _ _ | .gb _ _ | .gbh _ _ | .gbb _ _ | .avgb _ _ _ | .absdb _ _ _ | .sumb _ _ _ | .xsbh _ _ | .xshw _ _
  | .xswd _ _ | .and _ _ _ | .andc _ _ _ | .andbi _ _ _ | .andhi _ _ _ | .andi _ _ _ | .or _ _ _ | .orc _ _ _
  | .orbi _ _ _ | .orhi _ _ _ | .ori _ _ _ | .orx _ _ | .xor _ _ _ | .xorbi _ _ _ | .xorhi _ _ _ | .xori _ _ _
  | .nand _ _ _ | .nor _ _ _ | .eqv _ _ _ | .selb _ _ _ _ | .shufb _ _ _ _ | .shl _ _ _ | .shlh _ _ _
  | .shlqbi _ _ _ | .shlqby _ _ _ | .shlqbybi _ _ _ | .rot _ _ _ | .roth _ _ _ | .rothi _ _ _ | .roti _ _ _
  | .rotqbi _ _ _ | .rotqby _ _ _ | .rotqbybi _ _ _ | .rotqbyi _ _ _ | .rotm _ _ _ | .rotmi _ _ _ | .rothm _ _ _
  | .rothmi _ _ _ | .rotma _ _ _ | .rotmai _ _ _ | .rotmah _ _ _ | .rotmahi _ _ _ | .rotqmbi _ _ _
  | .rotqmbii _ _ _ | .rotqmby _ _ _ | .rotqmbybi _ _ _ | .rotqmbyi _ _ _ | .ceqb _ _ _ | .ceqh _ _ _ | .ceq _ _ _
  | .ceqbi _ _ _ | .ceqhi _ _ _ | .ceqi _ _ _ | .cgtb _ _ _ | .cgth _ _ _ | .cgt _ _ _ | .cgtbi _ _ _
  | .cgthi _ _ _ | .cgti _ _ _ | .clgtb _ _ _ | .clgth _ _ _ | .clgt _ _ _ | .clgtbi _ _ _ | .clgthi _ _ _
  | .clgti _ _ _ | .heq _ _ _ | .heqi _ _ _ | .hgt _ _ _ | .hgti _ _ _ | .hlgt _ _ _ | .hlgti _ _ _ | .br _
  | .bra _ | .brsl _ _ | .brasl _ _ | .bi _ | .bid _ | .bie _ | .bisl _ _ | .bisld _ _ | .bisle _ _ | .bisled _ _
  | .bisledd _ _ | .bislede _ _ | .iret _ | .iretd _ | .irete _ | .brz _ _ | .brnz _ _ | .brhz _ _ | .brhnz _ _
  | .biz _ _ | .bizd _ _ | .bize _ _ | .binz _ _ | .binzd _ _ | .binze _ _ | .bihz _ _ | .bihzd _ _ | .bihze _ _
  | .bihnz _ _ | .bihnzd _ _ | .bihnze _ _ | .hbr _ _ | .hbra _ _ | .hbrr _ _ | .hbrp | .fa _ _ _ | .fs _ _ _
  | .fm _ _ _ | .fma _ _ _ _ | .fms _ _ _ _ | .fnms _ _ _ _ | .dfa _ _ _ | .dfs _ _ _ | .dfm _ _ _ | .dfma _ _ _
  | .dfms _ _ _ | .dfnms _ _ _ | .dfnma _ _ _ | .frest _ _ | .frsqest _ _ | .fi _ _ _ | .fesd _ _ | .frds _ _
  | .fceq _ _ _ | .fcmeq _ _ _ | .fcgt _ _ _ | .fcmgt _ _ _ | .fscrrd _ | .fscrwr _ _ | .stop _ | .stopd _ _ _
  | .lnop | .nop _ | .sync | .syncc | .dsync | .mfspr _ _ | .mtspr _ _ | .rdch _ _ | .rchcnt _ _ | .wrch _ _ => true

end Sys2Proof
end

