-- ==== Sys2Proof/Decode.lean ====
section
/-! DEFINITION. Sys2Proof/Decode.lean: the binary level of 30_encoding.md, Part B: the fields of a word (R78, R79), the
opcode table as rows of match and mask (R80), the decode procedure (R85), and after it the encoder. The whole level
is general knowledge that the spec adopts: PRESUMED, unsafe (log 10). -/

namespace Sys2Proof

/-! ## Fields (R78), bit 0 the least significant -/

/-- Field T, `insn[6:0]`; also C of the RRR format. -/
def fT (w : Word) : BitVec 7 := w.extractLsb' 0 7
/-- Field A, `insn[13:7]`. -/
def fA (w : Word) : BitVec 7 := w.extractLsb' 7 7
/-- Field B, `insn[20:14]`. -/
def fB (w : Word) : BitVec 7 := w.extractLsb' 14 7
/-- Field RT of the RRR format, `insn[27:21]`. -/
def fRT (w : Word) : BitVec 7 := w.extractLsb' 21 7
/-- Field I7, `insn[20:14]`. -/
def fI7 (w : Word) : BitVec 7 := w.extractLsb' 14 7
/-- Field I8, `insn[21:14]`. -/
def fI8 (w : Word) : BitVec 8 := w.extractLsb' 14 8
/-- Field I10, `insn[23:14]`. -/
def fI10 (w : Word) : BitVec 10 := w.extractLsb' 14 10
/-- The stop-and-signal type, `insn[13:0]`. -/
def fI14 (w : Word) : BitVec 14 := w.extractLsb' 0 14
/-- Field I16, `insn[22:7]`. -/
def fI16 (w : Word) : BitVec 16 := w.extractLsb' 7 16
/-- Field I18, `insn[24:7]`. -/
def fI18 (w : Word) : BitVec 18 := w.extractLsb' 7 18
/-- ROH || ROL of the HBR format: `insn[15:14] || insn[6:0]`. -/
def fRoHbr (w : Word) : BitVec 9 := w.extractLsb' 14 2 ++ w.extractLsb' 0 7
/-- ROH || ROL of the HBRA format: `insn[24:23] || insn[6:0]`. -/
def fRoHbra (w : Word) : BitVec 9 := w.extractLsb' 23 2 ++ w.extractLsb' 0 7

/-! ## The opcode table (R80) -/

/-- A row of the opcode table: the words it matches, and the instruction such a word is. -/
structure OpRow where
  /-- The value of the fixed bits. -/
  pattern : Word
  /-- The fixed bits. Reserved bits are not among them (R82; log 10). -/
  mask : Word
  /-- The operands, each from its field (R78, R79). -/
  build : Word → Instr

/-- A word matches a row when its fixed bits have the row's value (R85). -/
def OpRow.hits (r : OpRow) (w : Word) : Bool := (w &&& r.mask) == r.pattern

/-- The rows of 41_load_store.md. -/
def rowsLoadStore : List OpRow :=
  [ ⟨0x34000000#32, 0xFF000000#32, fun w => .lqd (fT w) (fI10 w ++ 0#4) (fA w)⟩,
    ⟨0x38800000#32, 0xFFE00000#32, fun w => .lqx (fT w) (fA w) (fB w)⟩,
    ⟨0x30800000#32, 0xFF800000#32, fun w => .lqa (fT w) (fI16 w ++ 0#2)⟩,
    ⟨0x33800000#32, 0xFF800000#32, fun w => .lqr (fT w) (fI16 w ++ 0#2)⟩,
    ⟨0x24000000#32, 0xFF000000#32, fun w => .stqd (fT w) (fI10 w ++ 0#4) (fA w)⟩,
    ⟨0x28800000#32, 0xFFE00000#32, fun w => .stqx (fT w) (fA w) (fB w)⟩,
    ⟨0x20800000#32, 0xFF800000#32, fun w => .stqa (fT w) (fI16 w ++ 0#2)⟩,
    ⟨0x23800000#32, 0xFF800000#32, fun w => .stqr (fT w) (fI16 w ++ 0#2)⟩,
    ⟨0x3E800000#32, 0xFFE00000#32, fun w => .cbd (fT w) (fI7 w) (fA w)⟩,
    ⟨0x3A800000#32, 0xFFE00000#32, fun w => .cbx (fT w) (fA w) (fB w)⟩,
    ⟨0x3EA00000#32, 0xFFE00000#32, fun w => .chd (fT w) (fI7 w) (fA w)⟩,
    ⟨0x3AA00000#32, 0xFFE00000#32, fun w => .chx (fT w) (fA w) (fB w)⟩,
    ⟨0x3EC00000#32, 0xFFE00000#32, fun w => .cwd (fT w) (fI7 w) (fA w)⟩,
    ⟨0x3AC00000#32, 0xFFE00000#32, fun w => .cwx (fT w) (fA w) (fB w)⟩,
    ⟨0x3EE00000#32, 0xFFE00000#32, fun w => .cdd (fT w) (fI7 w) (fA w)⟩,
    ⟨0x3AE00000#32, 0xFFE00000#32, fun w => .cdx (fT w) (fA w) (fB w)⟩]

/-- The rows of 42_constant_formation.md. -/
def rowsConstant : List OpRow :=
  [ ⟨0x40800000#32, 0xFF800000#32, fun w => .il (fT w) (fI16 w)⟩,
    ⟨0x42000000#32, 0xFE000000#32, fun w => .ila (fT w) (fI18 w)⟩,
    ⟨0x41800000#32, 0xFF800000#32, fun w => .ilh (fT w) (fI16 w)⟩,
    ⟨0x41000000#32, 0xFF800000#32, fun w => .ilhu (fT w) (fI16 w)⟩,
    ⟨0x60800000#32, 0xFF800000#32, fun w => .iohl (fT w) (fI16 w)⟩,
    ⟨0x32800000#32, 0xFF800000#32, fun w => .fsmbi (fT w) (fI16 w)⟩]

/-- The rows of 43_integer_arithmetic.md. -/
def rowsArith : List OpRow :=
  [ ⟨0x18000000#32, 0xFFE00000#32, fun w => .a (fT w) (fA w) (fB w)⟩,
    ⟨0x19000000#32, 0xFFE00000#32, fun w => .ah (fT w) (fA w) (fB w)⟩,
    ⟨0x1D000000#32, 0xFF000000#32, fun w => .ahi (fT w) (fA w) (fI10 w)⟩,
    ⟨0x1C000000#32, 0xFF000000#32, fun w => .ai (fT w) (fA w) (fI10 w)⟩,
    ⟨0x68000000#32, 0xFFE00000#32, fun w => .addx (fT w) (fA w) (fB w)⟩,
    ⟨0x18400000#32, 0xFFE00000#32, fun w => .cg (fT w) (fA w) (fB w)⟩,
    ⟨0x68400000#32, 0xFFE00000#32, fun w => .cgx (fT w) (fA w) (fB w)⟩,
    ⟨0x08000000#32, 0xFFE00000#32, fun w => .sf (fT w) (fA w) (fB w)⟩,
    ⟨0x09000000#32, 0xFFE00000#32, fun w => .sfh (fT w) (fA w) (fB w)⟩,
    ⟨0x0D000000#32, 0xFF000000#32, fun w => .sfhi (fT w) (fA w) (fI10 w)⟩,
    ⟨0x0C000000#32, 0xFF000000#32, fun w => .sfi (fT w) (fA w) (fI10 w)⟩,
    ⟨0x68200000#32, 0xFFE00000#32, fun w => .sfx (fT w) (fA w) (fB w)⟩,
    ⟨0x08400000#32, 0xFFE00000#32, fun w => .bg (fT w) (fA w) (fB w)⟩,
    ⟨0x68600000#32, 0xFFE00000#32, fun w => .bgx (fT w) (fA w) (fB w)⟩,
    ⟨0x78800000#32, 0xFFE00000#32, fun w => .mpy (fT w) (fA w) (fB w)⟩,
    ⟨0x79800000#32, 0xFFE00000#32, fun w => .mpyu (fT w) (fA w) (fB w)⟩,
    ⟨0x74000000#32, 0xFF000000#32, fun w => .mpyi (fT w) (fA w) (fI10 w)⟩,
    ⟨0x75000000#32, 0xFF000000#32, fun w => .mpyui (fT w) (fA w) (fI10 w)⟩,
    ⟨0xC0000000#32, 0xF0000000#32, fun w => .mpya (fRT w) (fA w) (fB w) (fT w)⟩,
    ⟨0x78A00000#32, 0xFFE00000#32, fun w => .mpyh (fT w) (fA w) (fB w)⟩,
    ⟨0x78E00000#32, 0xFFE00000#32, fun w => .mpys (fT w) (fA w) (fB w)⟩,
    ⟨0x78C00000#32, 0xFFE00000#32, fun w => .mpyhh (fT w) (fA w) (fB w)⟩,
    ⟨0x68C00000#32, 0xFFE00000#32, fun w => .mpyhha (fT w) (fA w) (fB w)⟩,
    ⟨0x79C00000#32, 0xFFE00000#32, fun w => .mpyhhu (fT w) (fA w) (fB w)⟩,
    ⟨0x69C00000#32, 0xFFE00000#32, fun w => .mpyhhau (fT w) (fA w) (fB w)⟩,
    ⟨0x54A00000#32, 0xFFE00000#32, fun w => .clz (fT w) (fA w)⟩,
    ⟨0x56800000#32, 0xFFE00000#32, fun w => .cntb (fT w) (fA w)⟩,
    ⟨0x36800000#32, 0xFFE00000#32, fun w => .fsm (fT w) (fA w)⟩,
    ⟨0x36A00000#32, 0xFFE00000#32, fun w => .fsmh (fT w) (fA w)⟩,
    ⟨0x36C00000#32, 0xFFE00000#32, fun w => .fsmb (fT w) (fA w)⟩,
    ⟨0x36000000#32, 0xFFE00000#32, fun w => .gb (fT w) (fA w)⟩,
    ⟨0x36200000#32, 0xFFE00000#32, fun w => .gbh (fT w) (fA w)⟩,
    ⟨0x36400000#32, 0xFFE00000#32, fun w => .gbb (fT w) (fA w)⟩,
    ⟨0x1A600000#32, 0xFFE00000#32, fun w => .avgb (fT w) (fA w) (fB w)⟩,
    ⟨0x0A600000#32, 0xFFE00000#32, fun w => .absdb (fT w) (fA w) (fB w)⟩,
    ⟨0x4A600000#32, 0xFFE00000#32, fun w => .sumb (fT w) (fA w) (fB w)⟩,
    ⟨0x56C00000#32, 0xFFE00000#32, fun w => .xsbh (fT w) (fA w)⟩,
    ⟨0x55C00000#32, 0xFFE00000#32, fun w => .xshw (fT w) (fA w)⟩,
    ⟨0x54C00000#32, 0xFFE00000#32, fun w => .xswd (fT w) (fA w)⟩]

/-- The rows of 44_logical.md. -/
def rowsLogical : List OpRow :=
  [ ⟨0x18200000#32, 0xFFE00000#32, fun w => .and (fT w) (fA w) (fB w)⟩,
    ⟨0x58200000#32, 0xFFE00000#32, fun w => .andc (fT w) (fA w) (fB w)⟩,
    ⟨0x16000000#32, 0xFF000000#32, fun w => .andbi (fT w) (fA w) (fI10 w)⟩,
    ⟨0x15000000#32, 0xFF000000#32, fun w => .andhi (fT w) (fA w) (fI10 w)⟩,
    ⟨0x14000000#32, 0xFF000000#32, fun w => .andi (fT w) (fA w) (fI10 w)⟩,
    ⟨0x08200000#32, 0xFFE00000#32, fun w => .or (fT w) (fA w) (fB w)⟩,
    ⟨0x59200000#32, 0xFFE00000#32, fun w => .orc (fT w) (fA w) (fB w)⟩,
    ⟨0x06000000#32, 0xFF000000#32, fun w => .orbi (fT w) (fA w) (fI10 w)⟩,
    ⟨0x05000000#32, 0xFF000000#32, fun w => .orhi (fT w) (fA w) (fI10 w)⟩,
    ⟨0x04000000#32, 0xFF000000#32, fun w => .ori (fT w) (fA w) (fI10 w)⟩,
    ⟨0x3E000000#32, 0xFFE00000#32, fun w => .orx (fT w) (fA w)⟩,
    ⟨0x48200000#32, 0xFFE00000#32, fun w => .xor (fT w) (fA w) (fB w)⟩,
    ⟨0x46000000#32, 0xFF000000#32, fun w => .xorbi (fT w) (fA w) (fI10 w)⟩,
    ⟨0x45000000#32, 0xFF000000#32, fun w => .xorhi (fT w) (fA w) (fI10 w)⟩,
    ⟨0x44000000#32, 0xFF000000#32, fun w => .xori (fT w) (fA w) (fI10 w)⟩,
    ⟨0x19200000#32, 0xFFE00000#32, fun w => .nand (fT w) (fA w) (fB w)⟩,
    ⟨0x09200000#32, 0xFFE00000#32, fun w => .nor (fT w) (fA w) (fB w)⟩,
    ⟨0x49200000#32, 0xFFE00000#32, fun w => .eqv (fT w) (fA w) (fB w)⟩,
    ⟨0x80000000#32, 0xF0000000#32, fun w => .selb (fRT w) (fA w) (fB w) (fT w)⟩,
    ⟨0xB0000000#32, 0xF0000000#32, fun w => .shufb (fRT w) (fA w) (fB w) (fT w)⟩]

/-- The rows of 45_shift_rotate.md. -/
def rowsShift : List OpRow :=
  [ ⟨0x0B600000#32, 0xFFE00000#32, fun w => .shl (fT w) (fA w) (fB w)⟩,
    ⟨0x0BE00000#32, 0xFFE00000#32, fun w => .shlh (fT w) (fA w) (fB w)⟩,
    ⟨0x0FE00000#32, 0xFFE00000#32, fun w => .shlhi (fT w) (fA w) (fI7 w)⟩,
    ⟨0x0F600000#32, 0xFFE00000#32, fun w => .shli (fT w) (fA w) (fI7 w)⟩,
    ⟨0x3B600000#32, 0xFFE00000#32, fun w => .shlqbi (fT w) (fA w) (fB w)⟩,
    ⟨0x3F600000#32, 0xFFE00000#32, fun w => .shlqbii (fT w) (fA w) (fI7 w)⟩,
    ⟨0x3BE00000#32, 0xFFE00000#32, fun w => .shlqby (fT w) (fA w) (fB w)⟩,
    ⟨0x39E00000#32, 0xFFE00000#32, fun w => .shlqbybi (fT w) (fA w) (fB w)⟩,
    ⟨0x3FE00000#32, 0xFFE00000#32, fun w => .shlqbyi (fT w) (fA w) (fI7 w)⟩,
    ⟨0x0B000000#32, 0xFFE00000#32, fun w => .rot (fT w) (fA w) (fB w)⟩,
    ⟨0x0B800000#32, 0xFFE00000#32, fun w => .roth (fT w) (fA w) (fB w)⟩,
    ⟨0x0F800000#32, 0xFFE00000#32, fun w => .rothi (fT w) (fA w) (fI7 w)⟩,
    ⟨0x0F000000#32, 0xFFE00000#32, fun w => .roti (fT w) (fA w) (fI7 w)⟩,
    ⟨0x3B000000#32, 0xFFE00000#32, fun w => .rotqbi (fT w) (fA w) (fB w)⟩,
    ⟨0x3F000000#32, 0xFFE00000#32, fun w => .rotqbii (fT w) (fA w) (fI7 w)⟩,
    ⟨0x3B800000#32, 0xFFE00000#32, fun w => .rotqby (fT w) (fA w) (fB w)⟩,
    ⟨0x39800000#32, 0xFFE00000#32, fun w => .rotqbybi (fT w) (fA w) (fB w)⟩,
    ⟨0x3F800000#32, 0xFFE00000#32, fun w => .rotqbyi (fT w) (fA w) (fI7 w)⟩,
    ⟨0x0B200000#32, 0xFFE00000#32, fun w => .rotm (fT w) (fA w) (fB w)⟩,
    ⟨0x0F200000#32, 0xFFE00000#32, fun w => .rotmi (fT w) (fA w) (fI7 w)⟩,
    ⟨0x0BA00000#32, 0xFFE00000#32, fun w => .rothm (fT w) (fA w) (fB w)⟩,
    ⟨0x0FA00000#32, 0xFFE00000#32, fun w => .rothmi (fT w) (fA w) (fI7 w)⟩,
    ⟨0x0B400000#32, 0xFFE00000#32, fun w => .rotma (fT w) (fA w) (fB w)⟩,
    ⟨0x0F400000#32, 0xFFE00000#32, fun w => .rotmai (fT w) (fA w) (fI7 w)⟩,
    ⟨0x0BC00000#32, 0xFFE00000#32, fun w => .rotmah (fT w) (fA w) (fB w)⟩,
    ⟨0x0FC00000#32, 0xFFE00000#32, fun w => .rotmahi (fT w) (fA w) (fI7 w)⟩,
    ⟨0x3B200000#32, 0xFFE00000#32, fun w => .rotqmbi (fT w) (fA w) (fB w)⟩,
    ⟨0x3F200000#32, 0xFFE00000#32, fun w => .rotqmbii (fT w) (fA w) (fI7 w)⟩,
    ⟨0x3BA00000#32, 0xFFE00000#32, fun w => .rotqmby (fT w) (fA w) (fB w)⟩,
    ⟨0x39A00000#32, 0xFFE00000#32, fun w => .rotqmbybi (fT w) (fA w) (fB w)⟩,
    ⟨0x3FA00000#32, 0xFFE00000#32, fun w => .rotqmbyi (fT w) (fA w) (fI7 w)⟩]

/-- The rows of 46_compare_halt.md. -/
def rowsCompare : List OpRow :=
  [ ⟨0x7A000000#32, 0xFFE00000#32, fun w => .ceqb (fT w) (fA w) (fB w)⟩,
    ⟨0x79000000#32, 0xFFE00000#32, fun w => .ceqh (fT w) (fA w) (fB w)⟩,
    ⟨0x78000000#32, 0xFFE00000#32, fun w => .ceq (fT w) (fA w) (fB w)⟩,
    ⟨0x7E000000#32, 0xFF000000#32, fun w => .ceqbi (fT w) (fA w) (fI10 w)⟩,
    ⟨0x7D000000#32, 0xFF000000#32, fun w => .ceqhi (fT w) (fA w) (fI10 w)⟩,
    ⟨0x7C000000#32, 0xFF000000#32, fun w => .ceqi (fT w) (fA w) (fI10 w)⟩,
    ⟨0x4A000000#32, 0xFFE00000#32, fun w => .cgtb (fT w) (fA w) (fB w)⟩,
    ⟨0x49000000#32, 0xFFE00000#32, fun w => .cgth (fT w) (fA w) (fB w)⟩,
    ⟨0x48000000#32, 0xFFE00000#32, fun w => .cgt (fT w) (fA w) (fB w)⟩,
    ⟨0x4E000000#32, 0xFF000000#32, fun w => .cgtbi (fT w) (fA w) (fI10 w)⟩,
    ⟨0x4D000000#32, 0xFF000000#32, fun w => .cgthi (fT w) (fA w) (fI10 w)⟩,
    ⟨0x4C000000#32, 0xFF000000#32, fun w => .cgti (fT w) (fA w) (fI10 w)⟩,
    ⟨0x5A000000#32, 0xFFE00000#32, fun w => .clgtb (fT w) (fA w) (fB w)⟩,
    ⟨0x59000000#32, 0xFFE00000#32, fun w => .clgth (fT w) (fA w) (fB w)⟩,
    ⟨0x58000000#32, 0xFFE00000#32, fun w => .clgt (fT w) (fA w) (fB w)⟩,
    ⟨0x5E000000#32, 0xFF000000#32, fun w => .clgtbi (fT w) (fA w) (fI10 w)⟩,
    ⟨0x5D000000#32, 0xFF000000#32, fun w => .clgthi (fT w) (fA w) (fI10 w)⟩,
    ⟨0x5C000000#32, 0xFF000000#32, fun w => .clgti (fT w) (fA w) (fI10 w)⟩,
    ⟨0x7B000000#32, 0xFFE00000#32, fun w => .heq (fT w) (fA w) (fB w)⟩,
    ⟨0x7F000000#32, 0xFF000000#32, fun w => .heqi (fT w) (fA w) (fI10 w)⟩,
    ⟨0x4B000000#32, 0xFFE00000#32, fun w => .hgt (fT w) (fA w) (fB w)⟩,
    ⟨0x4F000000#32, 0xFF000000#32, fun w => .hgti (fT w) (fA w) (fI10 w)⟩,
    ⟨0x5B000000#32, 0xFFE00000#32, fun w => .hlgt (fT w) (fA w) (fB w)⟩,
    ⟨0x5F000000#32, 0xFF000000#32, fun w => .hlgti (fT w) (fA w) (fI10 w)⟩]

/-- The rows of 47_branch_hint.md. -/
def rowsBranch : List OpRow :=
  [ ⟨0x32000000#32, 0xFF800000#32, fun w => .br (fI16 w ++ 0#2)⟩,
    ⟨0x30000000#32, 0xFF800000#32, fun w => .bra (fI16 w ++ 0#2)⟩,
    ⟨0x33000000#32, 0xFF800000#32, fun w => .brsl (fT w) (fI16 w ++ 0#2)⟩,
    ⟨0x31000000#32, 0xFF800000#32, fun w => .brasl (fT w) (fI16 w ++ 0#2)⟩,
    ⟨0x35000000#32, 0xFFEC0000#32, fun w => .bi (fA w)⟩,
    ⟨0x35080000#32, 0xFFEC0000#32, fun w => .bid (fA w)⟩,
    ⟨0x35040000#32, 0xFFEC0000#32, fun w => .bie (fA w)⟩,
    ⟨0x35200000#32, 0xFFEC0000#32, fun w => .bisl (fT w) (fA w)⟩,
    ⟨0x35280000#32, 0xFFEC0000#32, fun w => .bisld (fT w) (fA w)⟩,
    ⟨0x35240000#32, 0xFFEC0000#32, fun w => .bisle (fT w) (fA w)⟩,
    ⟨0x35600000#32, 0xFFEC0000#32, fun w => .bisled (fT w) (fA w)⟩,
    ⟨0x35680000#32, 0xFFEC0000#32, fun w => .bisledd (fT w) (fA w)⟩,
    ⟨0x35640000#32, 0xFFEC0000#32, fun w => .bislede (fT w) (fA w)⟩,
    ⟨0x35400000#32, 0xFFEC0000#32, fun w => .iret (fA w)⟩,
    ⟨0x35480000#32, 0xFFEC0000#32, fun w => .iretd (fA w)⟩,
    ⟨0x35440000#32, 0xFFEC0000#32, fun w => .irete (fA w)⟩,
    ⟨0x20000000#32, 0xFF800000#32, fun w => .brz (fT w) (fI16 w ++ 0#2)⟩,
    ⟨0x21000000#32, 0xFF800000#32, fun w => .brnz (fT w) (fI16 w ++ 0#2)⟩,
    ⟨0x22000000#32, 0xFF800000#32, fun w => .brhz (fT w) (fI16 w ++ 0#2)⟩,
    ⟨0x23000000#32, 0xFF800000#32, fun w => .brhnz (fT w) (fI16 w ++ 0#2)⟩,
    ⟨0x25000000#32, 0xFFEC0000#32, fun w => .biz (fT w) (fA w)⟩,
    ⟨0x25080000#32, 0xFFEC0000#32, fun w => .bizd (fT w) (fA w)⟩,
    ⟨0x25040000#32, 0xFFEC0000#32, fun w => .bize (fT w) (fA w)⟩,
    ⟨0x25200000#32, 0xFFEC0000#32, fun w => .binz (fT w) (fA w)⟩,
    ⟨0x25280000#32, 0xFFEC0000#32, fun w => .binzd (fT w) (fA w)⟩,
    ⟨0x25240000#32, 0xFFEC0000#32, fun w => .binze (fT w) (fA w)⟩,
    ⟨0x25400000#32, 0xFFEC0000#32, fun w => .bihz (fT w) (fA w)⟩,
    ⟨0x25480000#32, 0xFFEC0000#32, fun w => .bihzd (fT w) (fA w)⟩,
    ⟨0x25440000#32, 0xFFEC0000#32, fun w => .bihze (fT w) (fA w)⟩,
    ⟨0x25600000#32, 0xFFEC0000#32, fun w => .bihnz (fT w) (fA w)⟩,
    ⟨0x25680000#32, 0xFFEC0000#32, fun w => .bihnzd (fT w) (fA w)⟩,
    ⟨0x25640000#32, 0xFFEC0000#32, fun w => .bihnze (fT w) (fA w)⟩,
    ⟨0x35800000#32, 0xFFF00000#32, fun w => .hbr (fRoHbr w ++ 0#2) (fA w)⟩,
    ⟨0x10000000#32, 0xFE000000#32, fun w => .hbra (fRoHbra w ++ 0#2) (fI16 w ++ 0#2)⟩,
    ⟨0x12000000#32, 0xFE000000#32, fun w => .hbrr (fRoHbra w ++ 0#2) (fI16 w ++ 0#2)⟩,
    ⟨0x35900000#32, 0xFFF0C07F#32, fun _ => .hbrp⟩]

/-- The rows of 48_floating_point.md. -/
def rowsFloat : List OpRow :=
  [ ⟨0x58800000#32, 0xFFE00000#32, fun w => .fa (fT w) (fA w) (fB w)⟩,
    ⟨0x58A00000#32, 0xFFE00000#32, fun w => .fs (fT w) (fA w) (fB w)⟩,
    ⟨0x58C00000#32, 0xFFE00000#32, fun w => .fm (fT w) (fA w) (fB w)⟩,
    ⟨0xE0000000#32, 0xF0000000#32, fun w => .fma (fRT w) (fA w) (fB w) (fT w)⟩,
    ⟨0xF0000000#32, 0xF0000000#32, fun w => .fms (fRT w) (fA w) (fB w) (fT w)⟩,
    ⟨0xD0000000#32, 0xF0000000#32, fun w => .fnms (fRT w) (fA w) (fB w) (fT w)⟩,
    ⟨0x59800000#32, 0xFFE00000#32, fun w => .dfa (fT w) (fA w) (fB w)⟩,
    ⟨0x59A00000#32, 0xFFE00000#32, fun w => .dfs (fT w) (fA w) (fB w)⟩,
    ⟨0x59C00000#32, 0xFFE00000#32, fun w => .dfm (fT w) (fA w) (fB w)⟩,
    ⟨0x6B800000#32, 0xFFE00000#32, fun w => .dfma (fT w) (fA w) (fB w)⟩,
    ⟨0x6BA00000#32, 0xFFE00000#32, fun w => .dfms (fT w) (fA w) (fB w)⟩,
    ⟨0x6BC00000#32, 0xFFE00000#32, fun w => .dfnms (fT w) (fA w) (fB w)⟩,
    ⟨0x6BE00000#32, 0xFFE00000#32, fun w => .dfnma (fT w) (fA w) (fB w)⟩,
    ⟨0x37000000#32, 0xFFE00000#32, fun w => .frest (fT w) (fA w)⟩,
    ⟨0x37200000#32, 0xFFE00000#32, fun w => .frsqest (fT w) (fA w)⟩,
    ⟨0x7A800000#32, 0xFFE00000#32, fun w => .fi (fT w) (fA w) (fB w)⟩,
    ⟨0x77000000#32, 0xFFE00000#32, fun w => .fesd (fT w) (fA w)⟩,
    ⟨0x77200000#32, 0xFFE00000#32, fun w => .frds (fT w) (fA w)⟩,
    ⟨0x76000000#32, 0xFFC00000#32, fun w => .cflts (fT w) (fA w) (173#8 - fI8 w)⟩,
    ⟨0x76400000#32, 0xFFC00000#32, fun w => .cfltu (fT w) (fA w) (173#8 - fI8 w)⟩,
    ⟨0x76800000#32, 0xFFC00000#32, fun w => .csflt (fT w) (fA w) (155#8 - fI8 w)⟩,
    ⟨0x76C00000#32, 0xFFC00000#32, fun w => .cuflt (fT w) (fA w) (155#8 - fI8 w)⟩,
    ⟨0x78400000#32, 0xFFE00000#32, fun w => .fceq (fT w) (fA w) (fB w)⟩,
    ⟨0x79400000#32, 0xFFE00000#32, fun w => .fcmeq (fT w) (fA w) (fB w)⟩,
    ⟨0x58400000#32, 0xFFE00000#32, fun w => .fcgt (fT w) (fA w) (fB w)⟩,
    ⟨0x59400000#32, 0xFFE00000#32, fun w => .fcmgt (fT w) (fA w) (fB w)⟩,
    ⟨0x73000000#32, 0xFFE00000#32, fun w => .fscrrd (fT w)⟩,
    ⟨0x77400000#32, 0xFFE00000#32, fun w => .fscrwr (fT w) (fA w)⟩]

/-- The rows of 49_control_channel.md. -/
def rowsControl : List OpRow :=
  [ ⟨0x00000000#32, 0xFFE00000#32, fun w => .stop (fI14 w)⟩,
    ⟨0x28000000#32, 0xFFE00000#32, fun w => .stopd (fA w) (fB w) (fT w)⟩,
    ⟨0x00200000#32, 0xFFE00000#32, fun _ => .lnop⟩,
    ⟨0x40200000#32, 0xFFE00000#32, fun w => .nop (fT w)⟩,
    ⟨0x00400000#32, 0xFFF00000#32, fun _ => .sync⟩,
    ⟨0x00500000#32, 0xFFF00000#32, fun _ => .syncc⟩,
    ⟨0x00600000#32, 0xFFE00000#32, fun _ => .dsync⟩,
    ⟨0x01800000#32, 0xFFE00000#32, fun w => .mfspr (fT w) (fA w)⟩,
    ⟨0x21800000#32, 0xFFE00000#32, fun w => .mtspr (fA w) (fT w)⟩,
    ⟨0x01A00000#32, 0xFFE00000#32, fun w => .rdch (fT w) (fA w)⟩,
    ⟨0x01E00000#32, 0xFFE00000#32, fun w => .rchcnt (fT w) (fA w)⟩,
    ⟨0x21A00000#32, 0xFFE00000#32, fun w => .wrch (fA w) (fT w)⟩]

/-- The whole table, 212 rows. -/
def opTable : List OpRow :=
  rowsLoadStore ++ rowsConstant ++ rowsArith ++ rowsLogical ++ rowsShift ++ rowsCompare ++ rowsBranch ++ rowsFloat ++
    rowsControl

/-! ## Decoding (R85) -/

/-- Why bytes are not an instruction. -/
inductive DecodeError where
  /-- Fewer than the four bytes of a word (R77). -/
  | truncated (bytes : Nat)
  /-- The word matches no row of the table: `invalid` (R82). An indirect branch with D = E = 1 (D21) and `hbrp` with an
  offset (S5) are such words. -/
  | invalid (w : Word)
  deriving DecidableEq, Repr

/-- The instruction that a word is (R85), or `invalid`. At most one row matches, so the order does not matter. -/
def decodeWord (w : Word) : Except DecodeError Instr :=
  match opTable.find? (·.hits w) with
  | some r => .ok (r.build w)
  | none => .error (.invalid w)

/-- Four bytes as a word, the first the most significant (R54, R77). -/
def wordOfBytes (b0 b1 b2 b3 : Byte) : Word := b0 ++ b1 ++ b2 ++ b3

/-- Reads one instruction from bytes as they stand in local storage, and answers the bytes after it. Total. -/
def decode : List Byte → Except DecodeError (Instr × List Byte)
  | b0 :: b1 :: b2 :: b3 :: rest =>
    match decodeWord (wordOfBytes b0 b1 b2 b3) with
    | .ok i => .ok (i, rest)
    | .error e => .error e
  | short => .error (.truncated short.length)

/-- The four bytes of a word in the order of local storage (R54). -/
def bytesOfWord (w : Word) : List Byte :=
  [w.extractLsb' 24 8, w.extractLsb' 16 8, w.extractLsb' 8 8, w.extractLsb' 0 8]

/-- The instruction the decoder reads from the word `w` of the opcode table, of which `nbits` bits are given and the
others are zero. -/
def decodeTableWord (nbits w : Nat) : Option Instr :=
  match decode (bytesOfWord (BitVec.ofNat 32 (w % 2 ^ nbits))) with
  | .ok (i, _) => some i
  | .error _ => none

/-! ## What an operand keeps of itself in its field (R71) -/

/-- A value with its `k` low bits cleared. -/
def clearLow (k : Nat) {n : Nat} (v : BitVec n) : BitVec n := (v >>> k) <<< k

/-- The instruction with those bits of its operands cleared of which R71 says that they are ignored: the four low bits
of s14, the two of s18 and of s11. A word has no place for them (R79; log 13). -/
def Instr.clearIgnored (i : Instr) : Instr :=
  match i with
  | .lqd rt s14 ra => .lqd rt (clearLow 4 s14) ra
  | .lqa rt s18 => .lqa rt (clearLow 2 s18)
  | .lqr rt s18 => .lqr rt (clearLow 2 s18)
  | .stqd rc s14 ra => .stqd rc (clearLow 4 s14) ra
  | .stqa rc s18 => .stqa rc (clearLow 2 s18)
  | .stqr rc s18 => .stqr rc (clearLow 2 s18)
  | .br s18 => .br (clearLow 2 s18)
  | .bra s18 => .bra (clearLow 2 s18)
  | .brsl rt s18 => .brsl rt (clearLow 2 s18)
  | .brasl rt s18 => .brasl rt (clearLow 2 s18)
  | .brz rc s18 => .brz rc (clearLow 2 s18)
  | .brnz rc s18 => .brnz rc (clearLow 2 s18)
  | .brhz rc s18 => .brhz rc (clearLow 2 s18)
  | .brhnz rc s18 => .brhnz rc (clearLow 2 s18)
  | .hbr s11 ra => .hbr (clearLow 2 s11) ra
  | .hbra s11 s18 => .hbra (clearLow 2 s11) (clearLow 2 s18)
  | .hbrr s11 s18 => .hbrr (clearLow 2 s11) (clearLow 2 s18)
  | .lqx _ _ _ | .stqx _ _ _ | .cbd _ _ _ | .cbx _ _ _ | .chd _ _ _ | .chx _ _ _ | .cwd _ _ _ | .cwx _ _ _
  | .cdd _ _ _ | .cdx _ _ _ | .il _ _ | .ila _ _ | .ilh _ _ | .ilhu _ _ | .iohl _ _ | .fsmbi _ _ | .a _ _ _
  | .ah _ _ _ | .ahi _ _ _ | .ai _ _ _ | .addx _ _ _ | .cg _ _ _ | .cgx _ _ _ | .sf _ _ _ | .sfh _ _ _
  | .sfhi _ _ _ | .sfi _ _ _ | .sfx _ _ _ | .bg _ _ _ | .bgx _ _ _ | .mpy _ _ _ | .mpyu _ _ _ | .mpyi _ _ _
  | .mpyui _ _ _ | .mpya _ _ _ _ | .mpyh _ _ _ | .mpys _ _ _ | .mpyhh _ _ _ | .mpyhha _ _ _ | .mpyhhu _ _ _
  | .mpyhhau _ _ _ | .clz _ _ | .cntb _ _ | .fsm _ _ | .fsmh _ _ | .fsmb _ _ | .gb _ _ | .gbh _ _ | .gbb _ _
  | .avgb _ _ _ | .absdb _ _ _ | .sumb _ _ _ | .xsbh _ _ | .xshw _ _ | .xswd _ _ | .and _ _ _ | .andc _ _ _
  | .andbi _ _ _ | .andhi _ _ _ | .andi _ _ _ | .or _ _ _ | .orc _ _ _ | .orbi _ _ _ | .orhi _ _ _ | .ori _ _ _
  | .orx _ _ | .xor _ _ _ | .xorbi _ _ _ | .xorhi _ _ _ | .xori _ _ _ | .nand _ _ _ | .nor _ _ _ | .eqv _ _ _
  | .selb _ _ _ _ | .shufb _ _ _ _ | .shl _ _ _ | .shlh _ _ _ | .shlhi _ _ _ | .shli _ _ _ | .shlqbi _ _ _
  | .shlqbii _ _ _ | .shlqby _ _ _ | .shlqbybi _ _ _ | .shlqbyi _ _ _ | .rot _ _ _ | .roth _ _ _ | .rothi _ _ _
  | .roti _ _ _ | .rotqbi _ _ _ | .rotqbii _ _ _ | .rotqby _ _ _ | .rotqbybi _ _ _ | .rotqbyi _ _ _ | .rotm _ _ _
  | .rotmi _ _ _ | .rothm _ _ _ | .rothmi _ _ _ | .rotma _ _ _ | .rotmai _ _ _ | .rotmah _ _ _ | .rotmahi _ _ _
  | .rotqmbi _ _ _ | .rotqmbii _ _ _ | .rotqmby _ _ _ | .rotqmbybi _ _ _ | .rotqmbyi _ _ _ | .ceqb _ _ _
  | .ceqh _ _ _ | .ceq _ _ _ | .ceqbi _ _ _ | .ceqhi _ _ _ | .ceqi _ _ _ | .cgtb _ _ _ | .cgth _ _ _ | .cgt _ _ _
  | .cgtbi _ _ _ | .cgthi _ _ _ | .cgti _ _ _ | .clgtb _ _ _ | .clgth _ _ _ | .clgt _ _ _ | .clgtbi _ _ _
  | .clgthi _ _ _ | .clgti _ _ _ | .heq _ _ _ | .heqi _ _ _ | .hgt _ _ _ | .hgti _ _ _ | .hlgt _ _ _ | .hlgti _ _ _
  | .bi _ | .bid _ | .bie _ | .bisl _ _ | .bisld _ _ | .bisle _ _ | .bisled _ _ | .bisledd _ _ | .bislede _ _
  | .iret _ | .iretd _ | .irete _ | .biz _ _ | .bizd _ _ | .bize _ _ | .binz _ _ | .binzd _ _ | .binze _ _
  | .bihz _ _ | .bihzd _ _ | .bihze _ _ | .bihnz _ _ | .bihnzd _ _ | .bihnze _ _ | .hbrp | .fa _ _ _ | .fs _ _ _
  | .fm _ _ _ | .fma _ _ _ _ | .fms _ _ _ _ | .fnms _ _ _ _ | .dfa _ _ _ | .dfs _ _ _ | .dfm _ _ _ | .dfma _ _ _
  | .dfms _ _ _ | .dfnms _ _ _ | .dfnma _ _ _ | .frest _ _ | .frsqest _ _ | .fi _ _ _ | .fesd _ _ | .frds _ _
  | .cflts _ _ _ | .cfltu _ _ _ | .csflt _ _ _ | .cuflt _ _ _ | .fceq _ _ _ | .fcmeq _ _ _ | .fcgt _ _ _
  | .fcmgt _ _ _ | .fscrrd _ | .fscrwr _ _ | .stop _ | .stopd _ _ _ | .lnop | .nop _ | .sync | .syncc | .dsync
  | .mfspr _ _ | .mtspr _ _ | .rdch _ _ | .rchcnt _ _ | .wrch _ _ => i

/-! ## Encoding: the formats of R78, reserved bits zero -/

/-- RR, RI7, RR-DE and SYNC: an opcode of 11 bits, then B (or I7, or the feature bits), A and T. -/
def encRR (op : BitVec 11) (b a t : BitVec 7) : Word := op ++ b ++ a ++ t
/-- RRR. -/
def encRRR (op : BitVec 4) (rt b a c : BitVec 7) : Word := op ++ rt ++ b ++ a ++ c
/-- RI8. -/
def encRI8 (op : BitVec 10) (i8 : BitVec 8) (a t : BitVec 7) : Word := op ++ i8 ++ a ++ t
/-- RI10. -/
def encRI10 (op : BitVec 8) (i10 : BitVec 10) (a t : BitVec 7) : Word := op ++ i10 ++ a ++ t
/-- RI16. -/
def encRI16 (op : BitVec 9) (i16 : BitVec 16) (t : BitVec 7) : Word := op ++ i16 ++ t
/-- RI18. -/
def encRI18 (op : BitVec 7) (i18 : BitVec 18) (t : BitVec 7) : Word := op ++ i18 ++ t
/-- HBR: the opcode with the bit P, four reserved bits, ROH, A, ROL. -/
def encHBR (op : BitVec 12) (s11 : BitVec 11) (a : BitVec 7) : Word :=
  op ++ 0#4 ++ s11.extractLsb' 9 2 ++ a ++ s11.extractLsb' 2 7
/-- HBRA. -/
def encHBRA (op : BitVec 7) (s11 : BitVec 11) (i16 : BitVec 16) : Word :=
  op ++ s11.extractLsb' 9 2 ++ i16 ++ s11.extractLsb' 2 7
/-- STOP. -/
def encStop (op : BitVec 11) (u14 : BitVec 14) : Word := op ++ 0#7 ++ u14

/-- The word of an instruction (R78, R79, R80). The low bits that R71 says are ignored are dropped. -/
def encode : Instr → Word
  | .lqd rt s14 ra => encRI10 0x34#8 (s14.extractLsb' 4 10) ra rt
  | .lqx rt ra rb => encRR 0x1c4#11 rb ra rt
  | .lqa rt s18 => encRI16 0x61#9 (s18.extractLsb' 2 16) rt
  | .lqr rt s18 => encRI16 0x67#9 (s18.extractLsb' 2 16) rt
  | .stqd rc s14 ra => encRI10 0x24#8 (s14.extractLsb' 4 10) ra rc
  | .stqx rc ra rb => encRR 0x144#11 rb ra rc
  | .stqa rc s18 => encRI16 0x41#9 (s18.extractLsb' 2 16) rc
  | .stqr rc s18 => encRI16 0x47#9 (s18.extractLsb' 2 16) rc
  | .cbd rt u7 ra => encRR 0x1f4#11 u7 ra rt
  | .cbx rt ra rb => encRR 0x1d4#11 rb ra rt
  | .chd rt u7 ra => encRR 0x1f5#11 u7 ra rt
  | .chx rt ra rb => encRR 0x1d5#11 rb ra rt
  | .cwd rt u7 ra => encRR 0x1f6#11 u7 ra rt
  | .cwx rt ra rb => encRR 0x1d6#11 rb ra rt
  | .cdd rt u7 ra => encRR 0x1f7#11 u7 ra rt
  | .cdx rt ra rb => encRR 0x1d7#11 rb ra rt
  | .il rt s16 => encRI16 0x81#9 s16 rt
  | .ila rt u18 => encRI18 0x21#7 u18 rt
  | .ilh rt u16 => encRI16 0x83#9 u16 rt
  | .ilhu rt u16 => encRI16 0x82#9 u16 rt
  | .iohl rt u16 => encRI16 0xc1#9 u16 rt
  | .fsmbi rt u16 => encRI16 0x65#9 u16 rt
  | .a rt ra rb => encRR 0xc0#11 rb ra rt
  | .ah rt ra rb => encRR 0xc8#11 rb ra rt
  | .ahi rt ra s10 => encRI10 0x1d#8 s10 ra rt
  | .ai rt ra s10 => encRI10 0x1c#8 s10 ra rt
  | .addx rt ra rb => encRR 0x340#11 rb ra rt
  | .cg rt ra rb => encRR 0xc2#11 rb ra rt
  | .cgx rt ra rb => encRR 0x342#11 rb ra rt
  | .sf rt ra rb => encRR 0x40#11 rb ra rt
  | .sfh rt ra rb => encRR 0x48#11 rb ra rt
  | .sfhi rt ra s10 => encRI10 0xd#8 s10 ra rt
  | .sfi rt ra s10 => encRI10 0xc#8 s10 ra rt
  | .sfx rt ra rb => encRR 0x341#11 rb ra rt
  | .bg rt ra rb => encRR 0x42#11 rb ra rt
  | .bgx rt ra rb => encRR 0x343#11 rb ra rt
  | .mpy rt ra rb => encRR 0x3c4#11 rb ra rt
  | .mpyu rt ra rb => encRR 0x3cc#11 rb ra rt
  | .mpyi rt ra s10 => encRI10 0x74#8 s10 ra rt
  | .mpyui rt ra s10 => encRI10 0x75#8 s10 ra rt
  | .mpya rt ra rb rc => encRRR 0xc#4 rt rb ra rc
  | .mpyh rt ra rb => encRR 0x3c5#11 rb ra rt
  | .mpys rt ra rb => encRR 0x3c7#11 rb ra rt
  | .mpyhh rt ra rb => encRR 0x3c6#11 rb ra rt
  | .mpyhha rt ra rb => encRR 0x346#11 rb ra rt
  | .mpyhhu rt ra rb => encRR 0x3ce#11 rb ra rt
  | .mpyhhau rt ra rb => encRR 0x34e#11 rb ra rt
  | .clz rt ra => encRR 0x2a5#11 0#7 ra rt
  | .cntb rt ra => encRR 0x2b4#11 0#7 ra rt
  | .fsm rt ra => encRR 0x1b4#11 0#7 ra rt
  | .fsmh rt ra => encRR 0x1b5#11 0#7 ra rt
  | .fsmb rt ra => encRR 0x1b6#11 0#7 ra rt
  | .gb rt ra => encRR 0x1b0#11 0#7 ra rt
  | .gbh rt ra => encRR 0x1b1#11 0#7 ra rt
  | .gbb rt ra => encRR 0x1b2#11 0#7 ra rt
  | .avgb rt ra rb => encRR 0xd3#11 rb ra rt
  | .absdb rt ra rb => encRR 0x53#11 rb ra rt
  | .sumb rt ra rb => encRR 0x253#11 rb ra rt
  | .xsbh rt ra => encRR 0x2b6#11 0#7 ra rt
  | .xshw rt ra => encRR 0x2ae#11 0#7 ra rt
  | .xswd rt ra => encRR 0x2a6#11 0#7 ra rt
  | .and rt ra rb => encRR 0xc1#11 rb ra rt
  | .andc rt ra rb => encRR 0x2c1#11 rb ra rt
  | .andbi rt ra s10 => encRI10 0x16#8 s10 ra rt
  | .andhi rt ra s10 => encRI10 0x15#8 s10 ra rt
  | .andi rt ra s10 => encRI10 0x14#8 s10 ra rt
  | .or rt ra rb => encRR 0x41#11 rb ra rt
  | .orc rt ra rb => encRR 0x2c9#11 rb ra rt
  | .orbi rt ra s10 => encRI10 0x6#8 s10 ra rt
  | .orhi rt ra s10 => encRI10 0x5#8 s10 ra rt
  | .ori rt ra s10 => encRI10 0x4#8 s10 ra rt
  | .orx rt ra => encRR 0x1f0#11 0#7 ra rt
  | .xor rt ra rb => encRR 0x241#11 rb ra rt
  | .xorbi rt ra s10 => encRI10 0x46#8 s10 ra rt
  | .xorhi rt ra s10 => encRI10 0x45#8 s10 ra rt
  | .xori rt ra s10 => encRI10 0x44#8 s10 ra rt
  | .nand rt ra rb => encRR 0xc9#11 rb ra rt
  | .nor rt ra rb => encRR 0x49#11 rb ra rt
  | .eqv rt ra rb => encRR 0x249#11 rb ra rt
  | .selb rt ra rb rc => encRRR 0x8#4 rt rb ra rc
  | .shufb rt ra rb rc => encRRR 0xb#4 rt rb ra rc
  | .shl rt ra rb => encRR 0x5b#11 rb ra rt
  | .shlh rt ra rb => encRR 0x5f#11 rb ra rt
  | .shlhi rt ra u5 => encRR 0x7f#11 u5 ra rt
  | .shli rt ra u6 => encRR 0x7b#11 u6 ra rt
  | .shlqbi rt ra rb => encRR 0x1db#11 rb ra rt
  | .shlqbii rt ra u3 => encRR 0x1fb#11 u3 ra rt
  | .shlqby rt ra rb => encRR 0x1df#11 rb ra rt
  | .shlqbybi rt ra rb => encRR 0x1cf#11 rb ra rt
  | .shlqbyi rt ra u5 => encRR 0x1ff#11 u5 ra rt
  | .rot rt ra rb => encRR 0x58#11 rb ra rt
  | .roth rt ra rb => encRR 0x5c#11 rb ra rt
  | .rothi rt ra s7 => encRR 0x7c#11 s7 ra rt
  | .roti rt ra s7 => encRR 0x78#11 s7 ra rt
  | .rotqbi rt ra rb => encRR 0x1d8#11 rb ra rt
  | .rotqbii rt ra u3 => encRR 0x1f8#11 u3 ra rt
  | .rotqby rt ra rb => encRR 0x1dc#11 rb ra rt
  | .rotqbybi rt ra rb => encRR 0x1cc#11 rb ra rt
  | .rotqbyi rt ra s7 => encRR 0x1fc#11 s7 ra rt
  | .rotm rt ra rb => encRR 0x59#11 rb ra rt
  | .rotmi rt ra s7 => encRR 0x79#11 s7 ra rt
  | .rothm rt ra rb => encRR 0x5d#11 rb ra rt
  | .rothmi rt ra s6 => encRR 0x7d#11 s6 ra rt
  | .rotma rt ra rb => encRR 0x5a#11 rb ra rt
  | .rotmai rt ra s7 => encRR 0x7a#11 s7 ra rt
  | .rotmah rt ra rb => encRR 0x5e#11 rb ra rt
  | .rotmahi rt ra s6 => encRR 0x7e#11 s6 ra rt
  | .rotqmbi rt ra rb => encRR 0x1d9#11 rb ra rt
  | .rotqmbii rt ra s3 => encRR 0x1f9#11 s3 ra rt
  | .rotqmby rt ra rb => encRR 0x1dd#11 rb ra rt
  | .rotqmbybi rt ra rb => encRR 0x1cd#11 rb ra rt
  | .rotqmbyi rt ra s6 => encRR 0x1fd#11 s6 ra rt
  | .ceqb rt ra rb => encRR 0x3d0#11 rb ra rt
  | .ceqh rt ra rb => encRR 0x3c8#11 rb ra rt
  | .ceq rt ra rb => encRR 0x3c0#11 rb ra rt
  | .ceqbi rt ra s10 => encRI10 0x7e#8 s10 ra rt
  | .ceqhi rt ra s10 => encRI10 0x7d#8 s10 ra rt
  | .ceqi rt ra s10 => encRI10 0x7c#8 s10 ra rt
  | .cgtb rt ra rb => encRR 0x250#11 rb ra rt
  | .cgth rt ra rb => encRR 0x248#11 rb ra rt
  | .cgt rt ra rb => encRR 0x240#11 rb ra rt
  | .cgtbi rt ra s10 => encRI10 0x4e#8 s10 ra rt
  | .cgthi rt ra s10 => encRI10 0x4d#8 s10 ra rt
  | .cgti rt ra s10 => encRI10 0x4c#8 s10 ra rt
  | .clgtb rt ra rb => encRR 0x2d0#11 rb ra rt
  | .clgth rt ra rb => encRR 0x2c8#11 rb ra rt
  | .clgt rt ra rb => encRR 0x2c0#11 rb ra rt
  | .clgtbi rt ra s10 => encRI10 0x5e#8 s10 ra rt
  | .clgthi rt ra s10 => encRI10 0x5d#8 s10 ra rt
  | .clgti rt ra s10 => encRI10 0x5c#8 s10 ra rt
  | .heq rt ra rb => encRR 0x3d8#11 rb ra rt
  | .heqi rt ra s10 => encRI10 0x7f#8 s10 ra rt
  | .hgt rt ra rb => encRR 0x258#11 rb ra rt
  | .hgti rt ra s10 => encRI10 0x4f#8 s10 ra rt
  | .hlgt rt ra rb => encRR 0x2d8#11 rb ra rt
  | .hlgti rt ra s10 => encRI10 0x5f#8 s10 ra rt
  | .br s18 => encRI16 0x64#9 (s18.extractLsb' 2 16) 0#7
  | .bra s18 => encRI16 0x60#9 (s18.extractLsb' 2 16) 0#7
  | .brsl rt s18 => encRI16 0x66#9 (s18.extractLsb' 2 16) rt
  | .brasl rt s18 => encRI16 0x62#9 (s18.extractLsb' 2 16) rt
  | .bi ra => encRR 0x1a8#11 0x0#7 ra 0#7
  | .bid ra => encRR 0x1a8#11 0x20#7 ra 0#7
  | .bie ra => encRR 0x1a8#11 0x10#7 ra 0#7
  | .bisl rt ra => encRR 0x1a9#11 0x0#7 ra rt
  | .bisld rt ra => encRR 0x1a9#11 0x20#7 ra rt
  | .bisle rt ra => encRR 0x1a9#11 0x10#7 ra rt
  | .bisled rt ra => encRR 0x1ab#11 0x0#7 ra rt
  | .bisledd rt ra => encRR 0x1ab#11 0x20#7 ra rt
  | .bislede rt ra => encRR 0x1ab#11 0x10#7 ra rt
  | .iret ra => encRR 0x1aa#11 0x0#7 ra 0#7
  | .iretd ra => encRR 0x1aa#11 0x20#7 ra 0#7
  | .irete ra => encRR 0x1aa#11 0x10#7 ra 0#7
  | .brz rc s18 => encRI16 0x40#9 (s18.extractLsb' 2 16) rc
  | .brnz rc s18 => encRI16 0x42#9 (s18.extractLsb' 2 16) rc
  | .brhz rc s18 => encRI16 0x44#9 (s18.extractLsb' 2 16) rc
  | .brhnz rc s18 => encRI16 0x46#9 (s18.extractLsb' 2 16) rc
  | .biz rc ra => encRR 0x128#11 0x0#7 ra rc
  | .bizd rc ra => encRR 0x128#11 0x20#7 ra rc
  | .bize rc ra => encRR 0x128#11 0x10#7 ra rc
  | .binz rc ra => encRR 0x129#11 0x0#7 ra rc
  | .binzd rc ra => encRR 0x129#11 0x20#7 ra rc
  | .binze rc ra => encRR 0x129#11 0x10#7 ra rc
  | .bihz rc ra => encRR 0x12a#11 0x0#7 ra rc
  | .bihzd rc ra => encRR 0x12a#11 0x20#7 ra rc
  | .bihze rc ra => encRR 0x12a#11 0x10#7 ra rc
  | .bihnz rc ra => encRR 0x12b#11 0x0#7 ra rc
  | .bihnzd rc ra => encRR 0x12b#11 0x20#7 ra rc
  | .bihnze rc ra => encRR 0x12b#11 0x10#7 ra rc
  | .hbr s11 ra => encHBR 0x358#12 s11 ra
  | .hbra s11 s18 => encHBRA 0x8#7 s11 (s18.extractLsb' 2 16)
  | .hbrr s11 s18 => encHBRA 0x9#7 s11 (s18.extractLsb' 2 16)
  | .hbrp => encHBR 0x359#12 0#11 0#7
  | .fa rt ra rb => encRR 0x2c4#11 rb ra rt
  | .fs rt ra rb => encRR 0x2c5#11 rb ra rt
  | .fm rt ra rb => encRR 0x2c6#11 rb ra rt
  | .fma rt ra rb rc => encRRR 0xe#4 rt rb ra rc
  | .fms rt ra rb rc => encRRR 0xf#4 rt rb ra rc
  | .fnms rt ra rb rc => encRRR 0xd#4 rt rb ra rc
  | .dfa rt ra rb => encRR 0x2cc#11 rb ra rt
  | .dfs rt ra rb => encRR 0x2cd#11 rb ra rt
  | .dfm rt ra rb => encRR 0x2ce#11 rb ra rt
  | .dfma rt ra rb => encRR 0x35c#11 rb ra rt
  | .dfms rt ra rb => encRR 0x35d#11 rb ra rt
  | .dfnms rt ra rb => encRR 0x35e#11 rb ra rt
  | .dfnma rt ra rb => encRR 0x35f#11 rb ra rt
  | .frest rt ra => encRR 0x1b8#11 0#7 ra rt
  | .frsqest rt ra => encRR 0x1b9#11 0#7 ra rt
  | .fi rt ra rb => encRR 0x3d4#11 rb ra rt
  | .fesd rt ra => encRR 0x3b8#11 0#7 ra rt
  | .frds rt ra => encRR 0x3b9#11 0#7 ra rt
  | .cflts rt ra scale7 => encRI8 0x1d8#10 (173#8 - scale7) ra rt
  | .cfltu rt ra scale7 => encRI8 0x1d9#10 (173#8 - scale7) ra rt
  | .csflt rt ra scale7 => encRI8 0x1da#10 (155#8 - scale7) ra rt
  | .cuflt rt ra scale7 => encRI8 0x1db#10 (155#8 - scale7) ra rt
  | .fceq rt ra rb => encRR 0x3c2#11 rb ra rt
  | .fcmeq rt ra rb => encRR 0x3ca#11 rb ra rt
  | .fcgt rt ra rb => encRR 0x2c2#11 rb ra rt
  | .fcmgt rt ra rb => encRR 0x2ca#11 rb ra rt
  | .fscrrd rt => encRR 0x398#11 0#7 0#7 rt
  | .fscrwr rc ra => encRR 0x3ba#11 0#7 ra rc
  | .stop u14 => encStop 0x0#11 u14
  | .stopd ra rb rc => encRR 0x140#11 rb ra rc
  | .lnop => encRR 0x1#11 0#7 0#7 0#7
  | .nop rt => encRR 0x201#11 0#7 0#7 rt
  | .sync => encRR 0x2#11 0x0#7 0#7 0#7
  | .syncc => encRR 0x2#11 0x40#7 0#7 0#7
  | .dsync => encRR 0x3#11 0#7 0#7 0#7
  | .mfspr rt spr => encRR 0xc#11 0#7 spr rt
  | .mtspr spr ra => encRR 0x10c#11 0#7 spr ra
  | .rdch rt ch => encRR 0xd#11 0#7 ch rt
  | .rchcnt rt ch => encRR 0xf#11 0#7 ch rt
  | .wrch ch ra => encRR 0x10d#11 0#7 ch ra

/-- The bytes of an instruction in local storage. -/
def encodeBytes (i : Instr) : List Byte := bytesOfWord (encode i)

end Sys2Proof
end

