-- ==== Sys2Proof/Machine/Control.lean ====
section
/-! DEFINITION. Sys2Proof/Machine/Control.lean: stop, no-operations, synchronisation, special purpose registers and channels
(49_control_channel.md). -/

namespace Sys2Proof.Machine

/-- `stop u14` (R391). -/
def execStop (u14 : BitVec 14) (s : State) : Result := .next (s.stopAndSignal u14)

/-- `stopd ra, rb, rc` (R392): the three registers are the dependencies, met in a machine that finishes each instruction (R446). -/
def execStopd (_ra _rb _rc : Reg) (s : State) : Result := .next (s.stopAndSignal 0x3FFF#14)

/-- `lnop` (R393). -/
def execLnop (s : State) : Result := .next s.advance

/-- `nop rt` (R394): `rt` is a false target. -/
def execNop (_rt : Reg) (s : State) : Result := .next s.advance

/-- `sync` (R395): earlier stores are already done (R59). -/
def execSync (s : State) : Result := .next s.clearDirty.advance

/-- `syncc` (R396): no channel operation is outstanding. -/
def execSyncc (s : State) : Result := .next s.clearDirty.advance

/-- `dsync` (R397): Dirty stays. -/
def execDsync (s : State) : Result := .next s.advance

/-- The free value of `mfspr`, a new one at each step (R398 (2); log 28). -/
def State.fresh96 (s : State) : BitVec 96 := Config.unspecified96 s.now

/-- `mfspr rt, spr` (R398): word elements 1 to 3 are a free value (U11; log 28). -/
def execMfspr (rt : Reg) (spr : SprNum) (s : State) : Result :=
  match s.spr spr with
  | some v => .next (s.retire rt (v ++ s.fresh96))
  | none => .fault (.illegalInstruction (encode (.mfspr rt spr)))

/-- `mtspr spr, ra` (R399): the register is the one the statement names (C4). -/
def execMtspr (spr : SprNum) (ra : Reg) (s : State) : Result :=
  match s.spr spr with
  | some _ => .next (s.setSpr spr (s.reg0 ra)).advance
  | none => .fault (.illegalInstruction (encode (.mtspr spr ra)))

/-- What `rdch` does with the oracle's answer (R400): a value completes the instruction, `blocked` leaves it waiting. -/
def State.finishRead (s : State) (rt : Reg) (ch : Chan) (answer : Option Quad) : State :=
  match answer with
  | some v => ((s.emit (.chRead ch v)).retire rt v).setStalled false
  | none => s.setStalled true

/-- What `wrch` does with the oracle's answer (R402): `done` completes the instruction and records the write, `blocked`
leaves it waiting. -/
def State.finishWrite (s : State) (ch : Chan) (v : Quad) (done : Bool) : State :=
  if done then (s.emit (.chWrite ch v)).advance.setStalled false else s.setStalled true

/-- `rdch rt, ch` (R400). -/
def execRdch (rt : Reg) (ch : Chan) (s : State) : Result := .next (s.finishRead rt ch (s.chRead ch))

/-- `rchcnt rt, ch` (R401). -/
def execRchcnt (rt : Reg) (ch : Chan) (s : State) : Result := .next (s.retire rt (inWord0 (s.chCount ch)))

/-- `wrch ch, ra` (R402). -/
def execWrch (ch : Chan) (ra : Reg) (s : State) : Result :=
  .next (s.finishWrite ch (s.reg ra) (s.chWrite ch (s.reg ra)))

end Sys2Proof.Machine
end

