-- ==== Sys2Proof/Machine/Numerics.lean ====
section
/-! DEFINITION. Sys2Proof/Machine/Numerics.lean: the values of floating-point results (R350, R351). In the exact core the
result is the exact value; everywhere else it is what the opaque functions of Config say (D16; log 21).

A core value is an integer times 2 to the power of minus the unit of its format, so exact arithmetic is arithmetic on
integers. -/

namespace Sys2Proof.Machine

/-! ## Formats (R350 c) -/

/-- A binary format: fraction bits, exponent bits, bias. -/
structure FpFormat where
  frac : Nat
  exp : Nat
  bias : Nat
  deriving DecidableEq, Repr

/-- Single precision (R350 c). -/
def single : FpFormat := ⟨23, 8, 127⟩
/-- Double precision (R350 c). -/
def double : FpFormat := ⟨52, 11, 1023⟩

/-- Core values of a format are integers times `2 ^ (- unit)`. -/
def FpFormat.unit (f : FpFormat) : Nat := f.bias + f.frac - 1

/-- The exponent field of a core value is below this one (R350 d). -/
def FpFormat.maxExp (f : FpFormat) : Nat := 2 ^ f.exp - 1

/-- The integer, in units of the format, of a pattern that is a core value (R350 c, d): +0, or an exponent field that is
neither 0 nor the largest. -/
def coreValue (f : FpFormat) (bits : Nat) : Option Int :=
  let fraction := bits % 2 ^ f.frac
  let e := bits / 2 ^ f.frac % 2 ^ f.exp
  if bits = 0 then some 0
  else if e = 0 ∨ e = f.maxExp then none
  else
    let m : Int := ((2 ^ f.frac + fraction) * 2 ^ (e - 1) : Nat)
    some (if bits / 2 ^ (f.frac + f.exp) % 2 = 1 then -m else m)

/-- The pattern of the nonzero core value that is exactly `v * 2 ^ (- unit)`, when there is one (R350 d). -/
def corePattern (f : FpFormat) (unit : Nat) (v : Int) : Option Nat :=
  let n := v.natAbs
  let l := n.log2
  let e : Int := (l : Int) - unit + f.bias
  let sign := if v < 0 then 2 ^ (f.frac + f.exp) else 0
  if n = 0 ∨ e < 1 ∨ (f.maxExp : Int) ≤ e then none
  else if l ≤ f.frac then some (sign + e.toNat * 2 ^ f.frac + (n * 2 ^ (f.frac - l) - 2 ^ f.frac))
  else if n % 2 ^ (l - f.frac) = 0 then some (sign + e.toNat * 2 ^ f.frac + (n / 2 ^ (l - f.frac) - 2 ^ f.frac))
  else none

/-- A core single-precision value in units of 2^(-149). -/
def spValue (w : Word) : Option Int := coreValue single w.toNat
/-- A core double-precision value in units of 2^(-1074). -/
def dpValue (d : DWord) : Option Int := coreValue double d.toNat

/-! ## Operations on one format, as patterns -/

/-- The exact sum `a + sign * b` when it is in the exact core (R350 d). Where it is zero, it is +0 only for a sum of
zeros that are both added: the sign of any other zero is not beyond doubt (log 23). -/
def exactAdd (f : FpFormat) (negate : Bool) (a b : Nat) : Option Nat :=
  match coreValue f a, coreValue f b with
  | some x, some y =>
    if a = 0 ∧ b = 0 ∧ !negate then some 0
    else corePattern f f.unit (if negate then x - y else x + y)
  | _, _ => none

/-- The exact product when it is in the exact core (R350 d). A zero product of values without a sign is +0 (log 23). -/
def exactMul (f : FpFormat) (a b : Nat) : Option Nat :=
  match coreValue f a, coreValue f b with
  | some x, some y =>
    if (x = 0 ∧ 0 ≤ y) ∨ (y = 0 ∧ 0 ≤ x) then some 0 else corePattern f (2 * f.unit) (x * y)
  | _, _ => none

/-- The exact `sp * a * b + st * t`, with signs of plus or minus one, when it is in the exact core: the product alone is
a nonzero core value too (R350 d, S6). -/
def exactMadd (f : FpFormat) (sp st : Int) (a b t : Nat) : Option Nat :=
  match coreValue f a, coreValue f b, coreValue f t with
  | some x, some y, some z =>
    match corePattern f (2 * f.unit) (x * y) with
    | some _ => corePattern f (2 * f.unit) (sp * (x * y) + st * (z * 2 ^ f.unit))
    | none => none
  | _, _, _ => none

/-- The exact value in another format, when it is in the exact core (R368, R369). -/
def exactConvert (f g : FpFormat) (a : Nat) : Option Nat :=
  match coreValue f a with
  | some x => if x = 0 then some 0 else corePattern g f.unit x
  | none => none

/-! ## The functions of R351: exact where the exact core says so, else opaque -/

/-- The exact result as a value of `n` bits, or the open one. -/
def coreOr {n : Nat} (exact : Option Nat) (open_ : BitVec n) : BitVec n :=
  match exact with
  | some p => BitVec.ofNat n p
  | none => open_

/-- sp_add (R352). -/
def spAdd (f : Quad) (a b : Word) : Word := coreOr (exactAdd single false a.toNat b.toNat) (Config.spAdd a b f)
/-- sp_sub (R353). -/
def spSub (f : Quad) (a b : Word) : Word := coreOr (exactAdd single true a.toNat b.toNat) (Config.spSub a b f)
/-- sp_mul (R354). -/
def spMul (f : Quad) (a b : Word) : Word := coreOr (exactMul single a.toNat b.toNat) (Config.spMul a b f)
/-- sp_madd (R355), `a*b + c`. -/
def spMadd (f : Quad) (a b c : Word) : Word :=
  coreOr (exactMadd single 1 1 a.toNat b.toNat c.toNat) (Config.spMadd a b c f)
/-- sp_msub (R356), `a*b - c`. -/
def spMsub (f : Quad) (a b c : Word) : Word :=
  coreOr (exactMadd single 1 (-1) a.toNat b.toNat c.toNat) (Config.spMsub a b c f)
/-- sp_nmsub (R357), `c - a*b`. -/
def spNmsub (f : Quad) (a b c : Word) : Word :=
  coreOr (exactMadd single (-1) 1 a.toNat b.toNat c.toNat) (Config.spNmsub a b c f)
/-- dp_add (R358). -/
def dpAdd (f : Quad) (a b : DWord) : DWord := coreOr (exactAdd double false a.toNat b.toNat) (Config.dpAdd a b f)
/-- dp_sub (R359). -/
def dpSub (f : Quad) (a b : DWord) : DWord := coreOr (exactAdd double true a.toNat b.toNat) (Config.dpSub a b f)
/-- dp_mul (R360). -/
def dpMul (f : Quad) (a b : DWord) : DWord := coreOr (exactMul double a.toNat b.toNat) (Config.dpMul a b f)
/-- dp_madd (R361), `a*b + t`. -/
def dpMadd (f : Quad) (a b t : DWord) : DWord :=
  coreOr (exactMadd double 1 1 a.toNat b.toNat t.toNat) (Config.dpMadd a b t f)
/-- dp_msub (R362), `a*b - t`. -/
def dpMsub (f : Quad) (a b t : DWord) : DWord :=
  coreOr (exactMadd double 1 (-1) a.toNat b.toNat t.toNat) (Config.dpMsub a b t f)
/-- dp_nmsub (R363), `t - a*b`. -/
def dpNmsub (f : Quad) (a b t : DWord) : DWord :=
  coreOr (exactMadd double (-1) 1 a.toNat b.toNat t.toNat) (Config.dpNmsub a b t f)
/-- dp_nmadd (R364), `-(a*b + t)`. -/
def dpNmadd (f : Quad) (a b t : DWord) : DWord :=
  coreOr (exactMadd double (-1) (-1) a.toNat b.toNat t.toNat) (Config.dpNmadd a b t f)
/-- sp_recip_est (R365): no exact core. -/
def spRecipEst (a : Word) : Word := Config.spRecipEst a
/-- sp_rsqrt_est (R366): no exact core. -/
def spRsqrtEst (a : Word) : Word := Config.spRsqrtEst a
/-- sp_interp (R367): no exact core. -/
def spInterp (a b : Word) : Word := Config.spInterp a b
/-- sp_to_dp (R368). -/
def spToDp (f : Quad) (a : Word) : DWord := coreOr (exactConvert single double a.toNat) (Config.spToDp a f)
/-- dp_to_sp (R369). -/
def dpToSp (f : Quad) (a : DWord) : Word := coreOr (exactConvert double single a.toNat) (Config.dpToSp a f)

/-! ## Conversion with integers (R370 to R373) -/

/-- `scale7` as R71 gives it: 0 to 127 (log 12). -/
def scaleOk (scale : BitVec 8) : Bool := decide (scale.toNat ≤ 127)

/-- The integer that `n * 2 ^ (- unit)` is, or one of the two next to it (R370; log 24). -/
def toInteger (n : Int) (unit : Nat) (up : Bool) : Int :=
  let d : Int := 2 ^ unit
  if n % d = 0 then n / d else if up then n / d + 1 else n / d

/-- sp_to_si (R370): scaled, made an integer, clamped. -/
def spToSi (scale : BitVec 8) (a : Word) : Word :=
  match spValue a with
  | some n =>
    if scaleOk scale then
      let r := n * 2 ^ scale.toNat
      if 2 ^ 31 * 2 ^ single.unit ≤ r then 0x7FFFFFFF#32
      else if r ≤ -(2 ^ 31 * 2 ^ single.unit) then 0x80000000#32
      else BitVec.ofInt 32 (toInteger r single.unit (Config.spToSiUp a scale))
    else Config.spToSi a scale
  | none => Config.spToSi a scale

/-- sp_to_ui (R371): scaled, made an integer, clamped. -/
def spToUi (scale : BitVec 8) (a : Word) : Word :=
  match spValue a with
  | some n =>
    if scaleOk scale then
      let r := n * 2 ^ scale.toNat
      if 2 ^ 32 * 2 ^ single.unit ≤ r then 0xFFFFFFFF#32
      else if r ≤ 0 then 0x00000000#32
      else BitVec.ofInt 32 (toInteger r single.unit (Config.spToUiUp a scale))
    else Config.spToUi a scale
  | none => Config.spToUi a scale

/-- The pattern of `i * 2 ^ (- scale)` when R372 fixes it: zero gives +0, an exact core value is itself. -/
def exactFromInt (scale : BitVec 8) (i : Int) : Option Nat :=
  if scaleOk scale then if i = 0 then some 0 else corePattern single scale.toNat i else none

/-- si_to_sp (R372), the scale dividing (D25; log 24). -/
def siToSp (scale : BitVec 8) (i : Word) : Word := coreOr (exactFromInt scale i.toInt) (Config.siToSp i scale)
/-- ui_to_sp (R373). -/
def uiToSp (scale : BitVec 8) (i : Word) : Word := coreOr (exactFromInt scale i.toNat) (Config.uiToSp i scale)

/-! ## Compares (R374 to R377) -/

/-- A relation of two core values, or the open answer. -/
def compareCore (rel : Int → Int → Bool) (a b : Word) (open_ : Bool) : Bool :=
  match spValue a, spValue b with
  | some x, some y => rel x y
  | _, _ => open_

/-- sp_eq (R374). -/
def spEq (a b : Word) : Bool := compareCore (fun x y => x == y) a b (Config.spEq a b)
/-- sp_gt (R376). -/
def spGt (a b : Word) : Bool := compareCore (fun x y => decide (x > y)) a b (Config.spGt a b)
/-- sp_meq (R375). -/
def spMeq (a b : Word) : Bool := compareCore (fun x y => x.natAbs == y.natAbs) a b (Config.spMeq a b)
/-- sp_mgt (R377). -/
def spMgt (a b : Word) : Bool := compareCore (fun x y => decide (x.natAbs > y.natAbs)) a b (Config.spMgt a b)

end Sys2Proof.Machine
end

