-- ==== Sys2Proof/Machine/Float.lean ====
section
/-! DEFINITION. Sys2Proof/Machine/Float.lean: floating point and the FPSCR (48_floating_point.md). -/

namespace Sys2Proof.Machine

/-- `fa rt, ra, rb` (R352). -/
def execFa (rt ra rb : Reg) (s : State) : Result :=
  .next (s.fpRetire .fa [s.reg ra, s.reg rb] rt (mapWords2 (spAdd s.fpscr) (s.reg ra) (s.reg rb)))

/-- `fs rt, ra, rb` (R353): `ra - rb`. -/
def execFs (rt ra rb : Reg) (s : State) : Result :=
  .next (s.fpRetire .fs [s.reg ra, s.reg rb] rt (mapWords2 (spSub s.fpscr) (s.reg ra) (s.reg rb)))

/-- `fm rt, ra, rb` (R354). -/
def execFm (rt ra rb : Reg) (s : State) : Result :=
  .next (s.fpRetire .fm [s.reg ra, s.reg rb] rt (mapWords2 (spMul s.fpscr) (s.reg ra) (s.reg rb)))

/-- `fma rt, ra, rb, rc` (R355): `ra*rb + rc`. -/
def execFma (rt ra rb rc : Reg) (s : State) : Result :=
  .next (s.fpRetire .fma [s.reg ra, s.reg rb, s.reg rc] rt (mapWords3 (spMadd s.fpscr) (s.reg ra) (s.reg rb) (s.reg rc)))

/-- `fms rt, ra, rb, rc` (R356): `ra*rb - rc`. -/
def execFms (rt ra rb rc : Reg) (s : State) : Result :=
  .next (s.fpRetire .fms [s.reg ra, s.reg rb, s.reg rc] rt (mapWords3 (spMsub s.fpscr) (s.reg ra) (s.reg rb) (s.reg rc)))

/-- `fnms rt, ra, rb, rc` (R357): `rc - ra*rb`. -/
def execFnms (rt ra rb rc : Reg) (s : State) : Result :=
  .next (s.fpRetire .fnms [s.reg ra, s.reg rb, s.reg rc] rt (mapWords3 (spNmsub s.fpscr) (s.reg ra) (s.reg rb) (s.reg rc)))

/-- `dfa rt, ra, rb` (R358). -/
def execDfa (rt ra rb : Reg) (s : State) : Result :=
  .next (s.fpRetire .dfa [s.reg ra, s.reg rb] rt (mapDWords2 (dpAdd s.fpscr) (s.reg ra) (s.reg rb)))

/-- `dfs rt, ra, rb` (R359): `ra - rb`. -/
def execDfs (rt ra rb : Reg) (s : State) : Result :=
  .next (s.fpRetire .dfs [s.reg ra, s.reg rb] rt (mapDWords2 (dpSub s.fpscr) (s.reg ra) (s.reg rb)))

/-- `dfm rt, ra, rb` (R360). -/
def execDfm (rt ra rb : Reg) (s : State) : Result :=
  .next (s.fpRetire .dfm [s.reg ra, s.reg rb] rt (mapDWords2 (dpMul s.fpscr) (s.reg ra) (s.reg rb)))

/-- `dfma rt, ra, rb` (R361): `ra*rb + rt`. -/
def execDfma (rt ra rb : Reg) (s : State) : Result :=
  .next (s.fpRetire .dfma [s.reg ra, s.reg rb, s.reg rt] rt (mapDWords3 (dpMadd s.fpscr) (s.reg ra) (s.reg rb) (s.reg rt)))

/-- `dfms rt, ra, rb` (R362): `ra*rb - rt`. -/
def execDfms (rt ra rb : Reg) (s : State) : Result :=
  .next (s.fpRetire .dfms [s.reg ra, s.reg rb, s.reg rt] rt (mapDWords3 (dpMsub s.fpscr) (s.reg ra) (s.reg rb) (s.reg rt)))

/-- `dfnms rt, ra, rb` (R363): `rt - ra*rb`. -/
def execDfnms (rt ra rb : Reg) (s : State) : Result :=
  .next (s.fpRetire .dfnms [s.reg ra, s.reg rb, s.reg rt] rt (mapDWords3 (dpNmsub s.fpscr) (s.reg ra) (s.reg rb) (s.reg rt)))

/-- `dfnma rt, ra, rb` (R364): `-(ra*rb + rt)`. -/
def execDfnma (rt ra rb : Reg) (s : State) : Result :=
  .next (s.fpRetire .dfnma [s.reg ra, s.reg rb, s.reg rt] rt (mapDWords3 (dpNmadd s.fpscr) (s.reg ra) (s.reg rb) (s.reg rt)))

/-- `frest rt, ra` (R365). -/
def execFrest (rt ra : Reg) (s : State) : Result :=
  .next (s.fpRetire .frest [s.reg ra] rt (mapWords spRecipEst (s.reg ra)))

/-- `frsqest rt, ra` (R366). -/
def execFrsqest (rt ra : Reg) (s : State) : Result :=
  .next (s.fpRetire .frsqest [s.reg ra] rt (mapWords spRsqrtEst (s.reg ra)))

/-- `fi rt, ra, rb` (R367). -/
def execFi (rt ra rb : Reg) (s : State) : Result :=
  .next (s.fpRetire .fi [s.reg ra, s.reg rb] rt (mapWords2 spInterp (s.reg ra) (s.reg rb)))

/-- `fesd rt, ra` (R368): word elements 0 and 2. -/
def execFesd (rt ra : Reg) (s : State) : Result :=
  .next (s.fpRetire .fesd [s.reg ra] rt (ofDWords fun k => spToDp s.fpscr (wordOf (s.reg ra) (2 * k))))

/-- `frds rt, ra` (R369): zeros in the odd word elements. -/
def execFrds (rt ra : Reg) (s : State) : Result :=
  .next (s.fpRetire .frds [s.reg ra] rt (ofDWords fun k => dpToSp s.fpscr (dwordOf (s.reg ra) k) ++ 0#32))

/-- `cflts rt, ra, scale7` (R370). -/
def execCflts (rt ra : Reg) (scale7 : BitVec 8) (s : State) : Result :=
  .next (s.fpRetire .cflts [s.reg ra] rt (mapWords (spToSi scale7) (s.reg ra)))

/-- `cfltu rt, ra, scale7` (R371). -/
def execCfltu (rt ra : Reg) (scale7 : BitVec 8) (s : State) : Result :=
  .next (s.fpRetire .cfltu [s.reg ra] rt (mapWords (spToUi scale7) (s.reg ra)))

/-- `csflt rt, ra, scale7` (R372). -/
def execCsflt (rt ra : Reg) (scale7 : BitVec 8) (s : State) : Result :=
  .next (s.fpRetire .csflt [s.reg ra] rt (mapWords (siToSp scale7) (s.reg ra)))

/-- `cuflt rt, ra, scale7` (R373). -/
def execCuflt (rt ra : Reg) (scale7 : BitVec 8) (s : State) : Result :=
  .next (s.fpRetire .cuflt [s.reg ra] rt (mapWords (uiToSp scale7) (s.reg ra)))

/-- `fceq rt, ra, rb` (R374). -/
def execFceq (rt ra rb : Reg) (s : State) : Result :=
  .next (s.fpRetire .fceq [s.reg ra, s.reg rb] rt (mapWords2 (fun x y => mask32 (spEq x y)) (s.reg ra) (s.reg rb)))

/-- `fcmeq rt, ra, rb` (R375). -/
def execFcmeq (rt ra rb : Reg) (s : State) : Result :=
  .next (s.fpRetire .fcmeq [s.reg ra, s.reg rb] rt (mapWords2 (fun x y => mask32 (spMeq x y)) (s.reg ra) (s.reg rb)))

/-- `fcgt rt, ra, rb` (R376). -/
def execFcgt (rt ra rb : Reg) (s : State) : Result :=
  .next (s.fpRetire .fcgt [s.reg ra, s.reg rb] rt (mapWords2 (fun x y => mask32 (spGt x y)) (s.reg ra) (s.reg rb)))

/-- `fcmgt rt, ra, rb` (R377): (C6). -/
def execFcmgt (rt ra rb : Reg) (s : State) : Result :=
  .next (s.fpRetire .fcmgt [s.reg ra, s.reg rb] rt (mapWords2 (fun x y => mask32 (spMgt x y)) (s.reg ra) (s.reg rb)))

/-- `fscrrd rt` (R383). -/
def execFscrrd (rt : Reg) (s : State) : Result := .next (s.retire rt (s.fpscr))

/-- `fscrwr rc, ra` (R384): `rc` is a false target. -/
def execFscrwr (_rc ra : Reg) (s : State) : Result := .next (s.setFpscr (s.reg ra)).advance

end Sys2Proof.Machine
end

