-- ==== Sys2Proof/Machine/LoadStore.lean ====
section
/-! DEFINITION. Sys2Proof/Machine/LoadStore.lean: loads, stores and insertion controls (41_load_store.md). -/

namespace Sys2Proof.Machine

/-- `lqd rt, s14(ra)` (R121). -/
def execLqd (rt : Reg) (s14 : BitVec 14) (ra : Reg) (s : State) : Result :=
  .next (s.retire rt (s.load (s.eaD s14 ra)))

/-- `lqx rt, ra, rb` (R122). -/
def execLqx (rt ra rb : Reg) (s : State) : Result := .next (s.retire rt (s.load (s.eaX ra rb)))

/-- `lqa rt, s18` (R123). -/
def execLqa (rt : Reg) (s18 : BitVec 18) (s : State) : Result := .next (s.retire rt (s.load (off18 s18)))

/-- `lqr rt, s18` (R124). -/
def execLqr (rt : Reg) (s18 : BitVec 18) (s : State) : Result := .next (s.retire rt (s.load (s.eaRel s18)))

/-- `stqd rc, s14(ra)` (R125). -/
def execStqd (rc : Reg) (s14 : BitVec 14) (ra : Reg) (s : State) : Result :=
  .next (s.store (s.eaD s14 ra) (s.reg rc)).advance

/-- `stqx rc, ra, rb` (R126). -/
def execStqx (rc ra rb : Reg) (s : State) : Result := .next (s.store (s.eaX ra rb) (s.reg rc)).advance

/-- `stqa rc, s18` (R127). -/
def execStqa (rc : Reg) (s18 : BitVec 18) (s : State) : Result := .next (s.store (off18 s18) (s.reg rc)).advance

/-- `stqr rc, s18` (R128). -/
def execStqr (rc : Reg) (s18 : BitVec 18) (s : State) : Result := .next (s.store (s.eaRel s18) (s.reg rc)).advance

/-- `cbd rt, u7(ra)` (R130). -/
def execCbd (rt : Reg) (u7 : BitVec 7) (ra : Reg) (s : State) : Result :=
  .next (s.retire rt (insertByte (s.reg0 ra + zext32 u7)))

/-- `cbx rt, ra, rb` (R131). -/
def execCbx (rt ra rb : Reg) (s : State) : Result := .next (s.retire rt (insertByte (s.eaX ra rb)))

/-- `chd rt, u7(ra)` (R132). -/
def execChd (rt : Reg) (u7 : BitVec 7) (ra : Reg) (s : State) : Result :=
  .next (s.retire rt (insertHalf (s.reg0 ra + zext32 u7)))

/-- `chx rt, ra, rb` (R133). -/
def execChx (rt ra rb : Reg) (s : State) : Result := .next (s.retire rt (insertHalf (s.eaX ra rb)))

/-- `cwd rt, u7(ra)` (R134). -/
def execCwd (rt : Reg) (u7 : BitVec 7) (ra : Reg) (s : State) : Result :=
  .next (s.retire rt (insertWord (s.reg0 ra + zext32 u7)))

/-- `cwx rt, ra, rb` (R135). -/
def execCwx (rt ra rb : Reg) (s : State) : Result := .next (s.retire rt (insertWord (s.eaX ra rb)))

/-- `cdd rt, u7(ra)` (R136). -/
def execCdd (rt : Reg) (u7 : BitVec 7) (ra : Reg) (s : State) : Result :=
  .next (s.retire rt (insertDWord (s.reg0 ra + zext32 u7)))

/-- `cdx rt, ra, rb` (R137). -/
def execCdx (rt ra rb : Reg) (s : State) : Result := .next (s.retire rt (insertDWord (s.eaX ra rb)))

end Sys2Proof.Machine
end

