-- ==== Sys2Proof/Machine/Logical.lean ====
section
/-! DEFINITION. Sys2Proof/Machine/Logical.lean: logical instructions, select and shuffle (44_logical.md). -/

namespace Sys2Proof.Machine

/-- `and rt, ra, rb` (R201). -/
def execAnd (rt ra rb : Reg) (s : State) : Result := .next (s.retire rt (s.reg ra &&& s.reg rb))

/-- `andc rt, ra, rb` (R202). -/
def execAndc (rt ra rb : Reg) (s : State) : Result := .next (s.retire rt (s.reg ra &&& ~~~(s.reg rb)))

/-- `andbi rt, ra, s10` (R203). -/
def execAndbi (rt ra : Reg) (s10 : BitVec 10) (s : State) : Result :=
  .next (s.retire rt (mapBytes (· &&& low8 s10) (s.reg ra)))

/-- `andhi rt, ra, s10` (R204). -/
def execAndhi (rt ra : Reg) (s10 : BitVec 10) (s : State) : Result :=
  .next (s.retire rt (mapHalves (· &&& sext16 s10) (s.reg ra)))

/-- `andi rt, ra, s10` (R205). -/
def execAndi (rt ra : Reg) (s10 : BitVec 10) (s : State) : Result :=
  .next (s.retire rt (mapWords (· &&& sext32 s10) (s.reg ra)))

/-- `or rt, ra, rb` (R206). -/
def execOr (rt ra rb : Reg) (s : State) : Result := .next (s.retire rt (s.reg ra ||| s.reg rb))

/-- `orc rt, ra, rb` (R207). -/
def execOrc (rt ra rb : Reg) (s : State) : Result := .next (s.retire rt (s.reg ra ||| ~~~(s.reg rb)))

/-- `orbi rt, ra, s10` (R208). -/
def execOrbi (rt ra : Reg) (s10 : BitVec 10) (s : State) : Result :=
  .next (s.retire rt (mapBytes (· ||| low8 s10) (s.reg ra)))

/-- `orhi rt, ra, s10` (R209). -/
def execOrhi (rt ra : Reg) (s10 : BitVec 10) (s : State) : Result :=
  .next (s.retire rt (mapHalves (· ||| sext16 s10) (s.reg ra)))

/-- `ori rt, ra, s10` (R210). -/
def execOri (rt ra : Reg) (s10 : BitVec 10) (s : State) : Result :=
  .next (s.retire rt (mapWords (· ||| sext32 s10) (s.reg ra)))

/-- `orx rt, ra` (R211). -/
def execOrx (rt ra : Reg) (s : State) : Result :=
  .next (s.retire rt (inWord0 (wordOf (s.reg ra) 0 ||| wordOf (s.reg ra) 1 ||| wordOf (s.reg ra) 2 ||| wordOf (s.reg ra) 3)))

/-- `xor rt, ra, rb` (R212). -/
def execXor (rt ra rb : Reg) (s : State) : Result := .next (s.retire rt (s.reg ra ^^^ s.reg rb))

/-- `xorbi rt, ra, s10` (R213). -/
def execXorbi (rt ra : Reg) (s10 : BitVec 10) (s : State) : Result :=
  .next (s.retire rt (mapBytes (· ^^^ low8 s10) (s.reg ra)))

/-- `xorhi rt, ra, s10` (R214): (C13). -/
def execXorhi (rt ra : Reg) (s10 : BitVec 10) (s : State) : Result :=
  .next (s.retire rt (mapHalves (· ^^^ sext16 s10) (s.reg ra)))

/-- `xori rt, ra, s10` (R215). -/
def execXori (rt ra : Reg) (s10 : BitVec 10) (s : State) : Result :=
  .next (s.retire rt (mapWords (· ^^^ sext32 s10) (s.reg ra)))

/-- `nand rt, ra, rb` (R216). -/
def execNand (rt ra rb : Reg) (s : State) : Result := .next (s.retire rt (~~~(s.reg ra &&& s.reg rb)))

/-- `nor rt, ra, rb` (R217). -/
def execNor (rt ra rb : Reg) (s : State) : Result := .next (s.retire rt (~~~(s.reg ra ||| s.reg rb)))

/-- `eqv rt, ra, rb` (R218). -/
def execEqv (rt ra rb : Reg) (s : State) : Result := .next (s.retire rt (~~~(s.reg ra ^^^ s.reg rb)))

/-- `selb rt, ra, rb, rc` (R219): a 1 bit of `rc` takes the bit of `rb`. -/
def execSelb (rt ra rb rc : Reg) (s : State) : Result :=
  .next (s.retire rt ((s.reg ra &&& ~~~(s.reg rc)) ||| (s.reg rb &&& s.reg rc)))

/-- `shufb rt, ra, rb, rc` (R220). -/
def execShufb (rt ra rb rc : Reg) (s : State) : Result :=
  .next (s.retire rt (shuffle (s.reg ra) (s.reg rb) (s.reg rc)))

end Sys2Proof.Machine
end

