-- ==== Sys2Proof/Machine/Shift.lean ====
section
/-! DEFINITION. Sys2Proof/Machine/Shift.lean: shifts, rotates, and rotate and mask, which is a right shift by the negated count
(45_shift_rotate.md). -/

namespace Sys2Proof.Machine

/-- `shl rt, ra, rb` (R231). -/
def execShl (rt ra rb : Reg) (s : State) : Result :=
  .next (s.retire rt (mapWords2 (fun x y => x <<< lowCount 6 y) (s.reg ra) (s.reg rb)))

/-- `shlh rt, ra, rb` (R232). -/
def execShlh (rt ra rb : Reg) (s : State) : Result :=
  .next (s.retire rt (mapHalves2 (fun x y => x <<< lowCount 5 y) (s.reg ra) (s.reg rb)))

/-- `shlhi rt, ra, u5` (R233). -/
def execShlhi (rt ra : Reg) (u5 : BitVec 7) (s : State) : Result :=
  .next (s.retire rt (mapHalves (· <<< lowCount 5 u5) (s.reg ra)))

/-- `shli rt, ra, u6` (R234). -/
def execShli (rt ra : Reg) (u6 : BitVec 7) (s : State) : Result :=
  .next (s.retire rt (mapWords (· <<< lowCount 6 u6) (s.reg ra)))

/-- `shlqbi rt, ra, rb` (R235). -/
def execShlqbi (rt ra rb : Reg) (s : State) : Result := .next (s.retire rt (s.reg ra <<< lowCount 3 (s.reg0 rb)))

/-- `shlqbii rt, ra, u3` (R236). -/
def execShlqbii (rt ra : Reg) (u3 : BitVec 7) (s : State) : Result := .next (s.retire rt (s.reg ra <<< lowCount 3 u3))

/-- `shlqby rt, ra, rb` (R237). -/
def execShlqby (rt ra rb : Reg) (s : State) : Result :=
  .next (s.retire rt (s.reg ra <<< (8 * lowCount 5 (s.reg0 rb))))

/-- `shlqbybi rt, ra, rb` (R238). -/
def execShlqbybi (rt ra rb : Reg) (s : State) : Result :=
  .next (s.retire rt (s.reg ra <<< (8 * lowCount 5 ((s.reg0 rb).extractLsb' 3 5))))

/-- `shlqbyi rt, ra, u5` (R239). -/
def execShlqbyi (rt ra : Reg) (u5 : BitVec 7) (s : State) : Result :=
  .next (s.retire rt (s.reg ra <<< (8 * lowCount 5 u5)))

/-- `rot rt, ra, rb` (R240). -/
def execRot (rt ra rb : Reg) (s : State) : Result :=
  .next (s.retire rt (mapWords2 (fun x y => x.rotateLeft (lowCount 5 y)) (s.reg ra) (s.reg rb)))

/-- `roth rt, ra, rb` (R241). -/
def execRoth (rt ra rb : Reg) (s : State) : Result :=
  .next (s.retire rt (mapHalves2 (fun x y => x.rotateLeft (lowCount 4 y)) (s.reg ra) (s.reg rb)))

/-- `rothi rt, ra, s7` (R242). -/
def execRothi (rt ra : Reg) (s7 : BitVec 7) (s : State) : Result :=
  .next (s.retire rt (mapHalves (·.rotateLeft (lowCount 4 s7)) (s.reg ra)))

/-- `roti rt, ra, s7` (R243). -/
def execRoti (rt ra : Reg) (s7 : BitVec 7) (s : State) : Result :=
  .next (s.retire rt (mapWords (·.rotateLeft (lowCount 5 s7)) (s.reg ra)))

/-- `rotqbi rt, ra, rb` (R244). -/
def execRotqbi (rt ra rb : Reg) (s : State) : Result :=
  .next (s.retire rt ((s.reg ra).rotateLeft (lowCount 3 (s.reg0 rb))))

/-- `rotqbii rt, ra, u3` (R245). -/
def execRotqbii (rt ra : Reg) (u3 : BitVec 7) (s : State) : Result :=
  .next (s.retire rt ((s.reg ra).rotateLeft (lowCount 3 u3)))

/-- `rotqby rt, ra, rb` (R246). -/
def execRotqby (rt ra rb : Reg) (s : State) : Result :=
  .next (s.retire rt ((s.reg ra).rotateLeft (8 * lowCount 4 (s.reg0 rb))))

/-- `rotqbybi rt, ra, rb` (R247). -/
def execRotqbybi (rt ra rb : Reg) (s : State) : Result :=
  .next (s.retire rt ((s.reg ra).rotateLeft (8 * lowCount 4 ((s.reg0 rb).extractLsb' 3 4))))

/-- `rotqbyi rt, ra, s7` (R248). -/
def execRotqbyi (rt ra : Reg) (s7 : BitVec 7) (s : State) : Result :=
  .next (s.retire rt ((s.reg ra).rotateLeft (8 * lowCount 4 s7)))

/-- `rotm rt, ra, rb` (R249). -/
def execRotm (rt ra rb : Reg) (s : State) : Result :=
  .next (s.retire rt (mapWords2 (fun x y => x >>> negCount 6 y) (s.reg ra) (s.reg rb)))

/-- `rotmi rt, ra, s7` (R250). -/
def execRotmi (rt ra : Reg) (s7 : BitVec 7) (s : State) : Result :=
  .next (s.retire rt (mapWords (· >>> negCount 6 s7) (s.reg ra)))

/-- `rothm rt, ra, rb` (R251). -/
def execRothm (rt ra rb : Reg) (s : State) : Result :=
  .next (s.retire rt (mapHalves2 (fun x y => x >>> negCount 5 y) (s.reg ra) (s.reg rb)))

/-- `rothmi rt, ra, s6` (R252). -/
def execRothmi (rt ra : Reg) (s6 : BitVec 7) (s : State) : Result :=
  .next (s.retire rt (mapHalves (· >>> negCount 5 s6) (s.reg ra)))

/-- `rotma rt, ra, rb` (R253). -/
def execRotma (rt ra rb : Reg) (s : State) : Result :=
  .next (s.retire rt (mapWords2 (fun x y => x.sshiftRight (negCount 6 y)) (s.reg ra) (s.reg rb)))

/-- `rotmai rt, ra, s7` (R254). -/
def execRotmai (rt ra : Reg) (s7 : BitVec 7) (s : State) : Result :=
  .next (s.retire rt (mapWords (·.sshiftRight (negCount 6 s7)) (s.reg ra)))

/-- `rotmah rt, ra, rb` (R255). -/
def execRotmah (rt ra rb : Reg) (s : State) : Result :=
  .next (s.retire rt (mapHalves2 (fun x y => x.sshiftRight (negCount 5 y)) (s.reg ra) (s.reg rb)))

/-- `rotmahi rt, ra, s6` (R256): the count is negated as in its siblings (C5). -/
def execRotmahi (rt ra : Reg) (s6 : BitVec 7) (s : State) : Result :=
  .next (s.retire rt (mapHalves (·.sshiftRight (negCount 5 s6)) (s.reg ra)))

/-- `rotqmbi rt, ra, rb` (R257). -/
def execRotqmbi (rt ra rb : Reg) (s : State) : Result := .next (s.retire rt (s.reg ra >>> negCount 3 (s.reg0 rb)))

/-- `rotqmbii rt, ra, s3` (R258). -/
def execRotqmbii (rt ra : Reg) (s3 : BitVec 7) (s : State) : Result :=
  .next (s.retire rt (s.reg ra >>> negCount 3 s3))

/-- `rotqmby rt, ra, rb` (R259). -/
def execRotqmby (rt ra rb : Reg) (s : State) : Result :=
  .next (s.retire rt (s.reg ra >>> (8 * negCount 5 (s.reg0 rb))))

/-- `rotqmbybi rt, ra, rb` (R260). -/
def execRotqmbybi (rt ra rb : Reg) (s : State) : Result :=
  .next (s.retire rt (s.reg ra >>> (8 * negByteCount (s.reg0 rb))))

/-- `rotqmbyi rt, ra, s6` (R261). -/
def execRotqmbyi (rt ra : Reg) (s6 : BitVec 7) (s : State) : Result :=
  .next (s.retire rt (s.reg ra >>> (8 * negCount 5 s6)))

end Sys2Proof.Machine
end

