-- ==== Sys2Proof/Machine/Dispatch.lean ====
section
/-! DEFINITION. Sys2Proof/Machine/Dispatch.lean: one arm per instruction, each a call of its meaning. -/

namespace Sys2Proof.Machine

def exec (i : Instr) (s : State) : Host.Outcome State Fault Refusal :=
  match i with
  | .lqd rt s14 ra => Sys2Proof.Machine.execLqd rt s14 ra s
  | .lqx rt ra rb => Sys2Proof.Machine.execLqx rt ra rb s
  | .lqa rt s18 => Sys2Proof.Machine.execLqa rt s18 s
  | .lqr rt s18 => Sys2Proof.Machine.execLqr rt s18 s
  | .stqd rc s14 ra => Sys2Proof.Machine.execStqd rc s14 ra s
  | .stqx rc ra rb => Sys2Proof.Machine.execStqx rc ra rb s
  | .stqa rc s18 => Sys2Proof.Machine.execStqa rc s18 s
  | .stqr rc s18 => Sys2Proof.Machine.execStqr rc s18 s
  | .cbd rt u7 ra => Sys2Proof.Machine.execCbd rt u7 ra s
  | .cbx rt ra rb => Sys2Proof.Machine.execCbx rt ra rb s
  | .chd rt u7 ra => Sys2Proof.Machine.execChd rt u7 ra s
  | .chx rt ra rb => Sys2Proof.Machine.execChx rt ra rb s
  | .cwd rt u7 ra => Sys2Proof.Machine.execCwd rt u7 ra s
  | .cwx rt ra rb => Sys2Proof.Machine.execCwx rt ra rb s
  | .cdd rt u7 ra => Sys2Proof.Machine.execCdd rt u7 ra s
  | .cdx rt ra rb => Sys2Proof.Machine.execCdx rt ra rb s
  | .il rt s16 => Sys2Proof.Machine.execIl rt s16 s
  | .ila rt u18 => Sys2Proof.Machine.execIla rt u18 s
  | .ilh rt u16 => Sys2Proof.Machine.execIlh rt u16 s
  | .ilhu rt u16 => Sys2Proof.Machine.execIlhu rt u16 s
  | .iohl rt u16 => Sys2Proof.Machine.execIohl rt u16 s
  | .fsmbi rt u16 => Sys2Proof.Machine.execFsmbi rt u16 s
  | .a rt ra rb => Sys2Proof.Machine.execA rt ra rb s
  | .ah rt ra rb => Sys2Proof.Machine.execAh rt ra rb s
  | .ahi rt ra s10 => Sys2Proof.Machine.execAhi rt ra s10 s
  | .ai rt ra s10 => Sys2Proof.Machine.execAi rt ra s10 s
  | .addx rt ra rb => Sys2Proof.Machine.execAddx rt ra rb s
  | .cg rt ra rb => Sys2Proof.Machine.execCg rt ra rb s
  | .cgx rt ra rb => Sys2Proof.Machine.execCgx rt ra rb s
  | .sf rt ra rb => Sys2Proof.Machine.execSf rt ra rb s
  | .sfh rt ra rb => Sys2Proof.Machine.execSfh rt ra rb s
  | .sfhi rt ra s10 => Sys2Proof.Machine.execSfhi rt ra s10 s
  | .sfi rt ra s10 => Sys2Proof.Machine.execSfi rt ra s10 s
  | .sfx rt ra rb => Sys2Proof.Machine.execSfx rt ra rb s
  | .bg rt ra rb => Sys2Proof.Machine.execBg rt ra rb s
  | .bgx rt ra rb => Sys2Proof.Machine.execBgx rt ra rb s
  | .mpy rt ra rb => Sys2Proof.Machine.execMpy rt ra rb s
  | .mpyu rt ra rb => Sys2Proof.Machine.execMpyu rt ra rb s
  | .mpyi rt ra s10 => Sys2Proof.Machine.execMpyi rt ra s10 s
  | .mpyui rt ra s10 => Sys2Proof.Machine.execMpyui rt ra s10 s
  | .mpya rt ra rb rc => Sys2Proof.Machine.execMpya rt ra rb rc s
  | .mpyh rt ra rb => Sys2Proof.Machine.execMpyh rt ra rb s
  | .mpys rt ra rb => Sys2Proof.Machine.execMpys rt ra rb s
  | .mpyhh rt ra rb => Sys2Proof.Machine.execMpyhh rt ra rb s
  | .mpyhha rt ra rb => Sys2Proof.Machine.execMpyhha rt ra rb s
  | .mpyhhu rt ra rb => Sys2Proof.Machine.execMpyhhu rt ra rb s
  | .mpyhhau rt ra rb => Sys2Proof.Machine.execMpyhhau rt ra rb s
  | .clz rt ra => Sys2Proof.Machine.execClz rt ra s
  | .cntb rt ra => Sys2Proof.Machine.execCntb rt ra s
  | .fsm rt ra => Sys2Proof.Machine.execFsm rt ra s
  | .fsmh rt ra => Sys2Proof.Machine.execFsmh rt ra s
  | .fsmb rt ra => Sys2Proof.Machine.execFsmb rt ra s
  | .gb rt ra => Sys2Proof.Machine.execGb rt ra s
  | .gbh rt ra => Sys2Proof.Machine.execGbh rt ra s
  | .gbb rt ra => Sys2Proof.Machine.execGbb rt ra s
  | .avgb rt ra rb => Sys2Proof.Machine.execAvgb rt ra rb s
  | .absdb rt ra rb => Sys2Proof.Machine.execAbsdb rt ra rb s
  | .sumb rt ra rb => Sys2Proof.Machine.execSumb rt ra rb s
  | .xsbh rt ra => Sys2Proof.Machine.execXsbh rt ra s
  | .xshw rt ra => Sys2Proof.Machine.execXshw rt ra s
  | .xswd rt ra => Sys2Proof.Machine.execXswd rt ra s
  | .and rt ra rb => Sys2Proof.Machine.execAnd rt ra rb s
  | .andc rt ra rb => Sys2Proof.Machine.execAndc rt ra rb s
  | .andbi rt ra s10 => Sys2Proof.Machine.execAndbi rt ra s10 s
  | .andhi rt ra s10 => Sys2Proof.Machine.execAndhi rt ra s10 s
  | .andi rt ra s10 => Sys2Proof.Machine.execAndi rt ra s10 s
  | .or rt ra rb => Sys2Proof.Machine.execOr rt ra rb s
  | .orc rt ra rb => Sys2Proof.Machine.execOrc rt ra rb s
  | .orbi rt ra s10 => Sys2Proof.Machine.execOrbi rt ra s10 s
  | .orhi rt ra s10 => Sys2Proof.Machine.execOrhi rt ra s10 s
  | .ori rt ra s10 => Sys2Proof.Machine.execOri rt ra s10 s
  | .orx rt ra => Sys2Proof.Machine.execOrx rt ra s
  | .xor rt ra rb => Sys2Proof.Machine.execXor rt ra rb s
  | .xorbi rt ra s10 => Sys2Proof.Machine.execXorbi rt ra s10 s
  | .xorhi rt ra s10 => Sys2Proof.Machine.execXorhi rt ra s10 s
  | .xori rt ra s10 => Sys2Proof.Machine.execXori rt ra s10 s
  | .nand rt ra rb => Sys2Proof.Machine.execNand rt ra rb s
  | .nor rt ra rb => Sys2Proof.Machine.execNor rt ra rb s
  | .eqv rt ra rb => Sys2Proof.Machine.execEqv rt ra rb s
  | .selb rt ra rb rc => Sys2Proof.Machine.execSelb rt ra rb rc s
  | .shufb rt ra rb rc => Sys2Proof.Machine.execShufb rt ra rb rc s
  | .shl rt ra rb => Sys2Proof.Machine.execShl rt ra rb s
  | .shlh rt ra rb => Sys2Proof.Machine.execShlh rt ra rb s
  | .shlhi rt ra u5 => Sys2Proof.Machine.execShlhi rt ra u5 s
  | .shli rt ra u6 => Sys2Proof.Machine.execShli rt ra u6 s
  | .shlqbi rt ra rb => Sys2Proof.Machine.execShlqbi rt ra rb s
  | .shlqbii rt ra u3 => Sys2Proof.Machine.execShlqbii rt ra u3 s
  | .shlqby rt ra rb => Sys2Proof.Machine.execShlqby rt ra rb s
  | .shlqbybi rt ra rb => Sys2Proof.Machine.execShlqbybi rt ra rb s
  | .shlqbyi rt ra u5 => Sys2Proof.Machine.execShlqbyi rt ra u5 s
  | .rot rt ra rb => Sys2Proof.Machine.execRot rt ra rb s
  | .roth rt ra rb => Sys2Proof.Machine.execRoth rt ra rb s
  | .rothi rt ra s7 => Sys2Proof.Machine.execRothi rt ra s7 s
  | .roti rt ra s7 => Sys2Proof.Machine.execRoti rt ra s7 s
  | .rotqbi rt ra rb => Sys2Proof.Machine.execRotqbi rt ra rb s
  | .rotqbii rt ra u3 => Sys2Proof.Machine.execRotqbii rt ra u3 s
  | .rotqby rt ra rb => Sys2Proof.Machine.execRotqby rt ra rb s
  | .rotqbybi rt ra rb => Sys2Proof.Machine.execRotqbybi rt ra rb s
  | .rotqbyi rt ra s7 => Sys2Proof.Machine.execRotqbyi rt ra s7 s
  | .rotm rt ra rb => Sys2Proof.Machine.execRotm rt ra rb s
  | .rotmi rt ra s7 => Sys2Proof.Machine.execRotmi rt ra s7 s
  | .rothm rt ra rb => Sys2Proof.Machine.execRothm rt ra rb s
  | .rothmi rt ra s6 => Sys2Proof.Machine.execRothmi rt ra s6 s
  | .rotma rt ra rb => Sys2Proof.Machine.execRotma rt ra rb s
  | .rotmai rt ra s7 => Sys2Proof.Machine.execRotmai rt ra s7 s
  | .rotmah rt ra rb => Sys2Proof.Machine.execRotmah rt ra rb s
  | .rotmahi rt ra s6 => Sys2Proof.Machine.execRotmahi rt ra s6 s
  | .rotqmbi rt ra rb => Sys2Proof.Machine.execRotqmbi rt ra rb s
  | .rotqmbii rt ra s3 => Sys2Proof.Machine.execRotqmbii rt ra s3 s
  | .rotqmby rt ra rb => Sys2Proof.Machine.execRotqmby rt ra rb s
  | .rotqmbybi rt ra rb => Sys2Proof.Machine.execRotqmbybi rt ra rb s
  | .rotqmbyi rt ra s6 => Sys2Proof.Machine.execRotqmbyi rt ra s6 s
  | .ceqb rt ra rb => Sys2Proof.Machine.execCeqb rt ra rb s
  | .ceqh rt ra rb => Sys2Proof.Machine.execCeqh rt ra rb s
  | .ceq rt ra rb => Sys2Proof.Machine.execCeq rt ra rb s
  | .ceqbi rt ra s10 => Sys2Proof.Machine.execCeqbi rt ra s10 s
  | .ceqhi rt ra s10 => Sys2Proof.Machine.execCeqhi rt ra s10 s
  | .ceqi rt ra s10 => Sys2Proof.Machine.execCeqi rt ra s10 s
  | .cgtb rt ra rb => Sys2Proof.Machine.execCgtb rt ra rb s
  | .cgth rt ra rb => Sys2Proof.Machine.execCgth rt ra rb s
  | .cgt rt ra rb => Sys2Proof.Machine.execCgt rt ra rb s
  | .cgtbi rt ra s10 => Sys2Proof.Machine.execCgtbi rt ra s10 s
  | .cgthi rt ra s10 => Sys2Proof.Machine.execCgthi rt ra s10 s
  | .cgti rt ra s10 => Sys2Proof.Machine.execCgti rt ra s10 s
  | .clgtb rt ra rb => Sys2Proof.Machine.execClgtb rt ra rb s
  | .clgth rt ra rb => Sys2Proof.Machine.execClgth rt ra rb s
  | .clgt rt ra rb => Sys2Proof.Machine.execClgt rt ra rb s
  | .clgtbi rt ra s10 => Sys2Proof.Machine.execClgtbi rt ra s10 s
  | .clgthi rt ra s10 => Sys2Proof.Machine.execClgthi rt ra s10 s
  | .clgti rt ra s10 => Sys2Proof.Machine.execClgti rt ra s10 s
  | .heq rt ra rb => Sys2Proof.Machine.execHeq rt ra rb s
  | .heqi rt ra s10 => Sys2Proof.Machine.execHeqi rt ra s10 s
  | .hgt rt ra rb => Sys2Proof.Machine.execHgt rt ra rb s
  | .hgti rt ra s10 => Sys2Proof.Machine.execHgti rt ra s10 s
  | .hlgt rt ra rb => Sys2Proof.Machine.execHlgt rt ra rb s
  | .hlgti rt ra s10 => Sys2Proof.Machine.execHlgti rt ra s10 s
  | .br s18 => Sys2Proof.Machine.execBr s18 s
  | .bra s18 => Sys2Proof.Machine.execBra s18 s
  | .brsl rt s18 => Sys2Proof.Machine.execBrsl rt s18 s
  | .brasl rt s18 => Sys2Proof.Machine.execBrasl rt s18 s
  | .bi ra => Sys2Proof.Machine.execBi ra s
  | .bid ra => Sys2Proof.Machine.execBid ra s
  | .bie ra => Sys2Proof.Machine.execBie ra s
  | .bisl rt ra => Sys2Proof.Machine.execBisl rt ra s
  | .bisld rt ra => Sys2Proof.Machine.execBisld rt ra s
  | .bisle rt ra => Sys2Proof.Machine.execBisle rt ra s
  | .bisled rt ra => Sys2Proof.Machine.execBisled rt ra s
  | .bisledd rt ra => Sys2Proof.Machine.execBisledd rt ra s
  | .bislede rt ra => Sys2Proof.Machine.execBislede rt ra s
  | .iret ra => Sys2Proof.Machine.execIret ra s
  | .iretd ra => Sys2Proof.Machine.execIretd ra s
  | .irete ra => Sys2Proof.Machine.execIrete ra s
  | .brz rc s18 => Sys2Proof.Machine.execBrz rc s18 s
  | .brnz rc s18 => Sys2Proof.Machine.execBrnz rc s18 s
  | .brhz rc s18 => Sys2Proof.Machine.execBrhz rc s18 s
  | .brhnz rc s18 => Sys2Proof.Machine.execBrhnz rc s18 s
  | .biz rc ra => Sys2Proof.Machine.execBiz rc ra s
  | .bizd rc ra => Sys2Proof.Machine.execBizd rc ra s
  | .bize rc ra => Sys2Proof.Machine.execBize rc ra s
  | .binz rc ra => Sys2Proof.Machine.execBinz rc ra s
  | .binzd rc ra => Sys2Proof.Machine.execBinzd rc ra s
  | .binze rc ra => Sys2Proof.Machine.execBinze rc ra s
  | .bihz rc ra => Sys2Proof.Machine.execBihz rc ra s
  | .bihzd rc ra => Sys2Proof.Machine.execBihzd rc ra s
  | .bihze rc ra => Sys2Proof.Machine.execBihze rc ra s
  | .bihnz rc ra => Sys2Proof.Machine.execBihnz rc ra s
  | .bihnzd rc ra => Sys2Proof.Machine.execBihnzd rc ra s
  | .bihnze rc ra => Sys2Proof.Machine.execBihnze rc ra s
  | .hbr s11 ra => Sys2Proof.Machine.execHbr s11 ra s
  | .hbra s11 s18 => Sys2Proof.Machine.execHbra s11 s18 s
  | .hbrr s11 s18 => Sys2Proof.Machine.execHbrr s11 s18 s
  | .hbrp => Sys2Proof.Machine.execHbrp s
  | .fa rt ra rb => Sys2Proof.Machine.execFa rt ra rb s
  | .fs rt ra rb => Sys2Proof.Machine.execFs rt ra rb s
  | .fm rt ra rb => Sys2Proof.Machine.execFm rt ra rb s
  | .fma rt ra rb rc => Sys2Proof.Machine.execFma rt ra rb rc s
  | .fms rt ra rb rc => Sys2Proof.Machine.execFms rt ra rb rc s
  | .fnms rt ra rb rc => Sys2Proof.Machine.execFnms rt ra rb rc s
  | .dfa rt ra rb => Sys2Proof.Machine.execDfa rt ra rb s
  | .dfs rt ra rb => Sys2Proof.Machine.execDfs rt ra rb s
  | .dfm rt ra rb => Sys2Proof.Machine.execDfm rt ra rb s
  | .dfma rt ra rb => Sys2Proof.Machine.execDfma rt ra rb s
  | .dfms rt ra rb => Sys2Proof.Machine.execDfms rt ra rb s
  | .dfnms rt ra rb => Sys2Proof.Machine.execDfnms rt ra rb s
  | .dfnma rt ra rb => Sys2Proof.Machine.execDfnma rt ra rb s
  | .frest rt ra => Sys2Proof.Machine.execFrest rt ra s
  | .frsqest rt ra => Sys2Proof.Machine.execFrsqest rt ra s
  | .fi rt ra rb => Sys2Proof.Machine.execFi rt ra rb s
  | .fesd rt ra => Sys2Proof.Machine.execFesd rt ra s
  | .frds rt ra => Sys2Proof.Machine.execFrds rt ra s
  | .cflts rt ra scale7 => Sys2Proof.Machine.execCflts rt ra scale7 s
  | .cfltu rt ra scale7 => Sys2Proof.Machine.execCfltu rt ra scale7 s
  | .csflt rt ra scale7 => Sys2Proof.Machine.execCsflt rt ra scale7 s
  | .cuflt rt ra scale7 => Sys2Proof.Machine.execCuflt rt ra scale7 s
  | .fceq rt ra rb => Sys2Proof.Machine.execFceq rt ra rb s
  | .fcmeq rt ra rb => Sys2Proof.Machine.execFcmeq rt ra rb s
  | .fcgt rt ra rb => Sys2Proof.Machine.execFcgt rt ra rb s
  | .fcmgt rt ra rb => Sys2Proof.Machine.execFcmgt rt ra rb s
  | .fscrrd rt => Sys2Proof.Machine.execFscrrd rt s
  | .fscrwr rc ra => Sys2Proof.Machine.execFscrwr rc ra s
  | .stop u14 => Sys2Proof.Machine.execStop u14 s
  | .stopd ra rb rc => Sys2Proof.Machine.execStopd ra rb rc s
  | .lnop => Sys2Proof.Machine.execLnop s
  | .nop rt => Sys2Proof.Machine.execNop rt s
  | .sync => Sys2Proof.Machine.execSync s
  | .syncc => Sys2Proof.Machine.execSyncc s
  | .dsync => Sys2Proof.Machine.execDsync s
  | .mfspr rt spr => Sys2Proof.Machine.execMfspr rt spr s
  | .mtspr spr ra => Sys2Proof.Machine.execMtspr spr ra s
  | .rdch rt ch => Sys2Proof.Machine.execRdch rt ch s
  | .rchcnt rt ch => Sys2Proof.Machine.execRchcnt rt ch s
  | .wrch ch ra => Sys2Proof.Machine.execWrch ch ra s

end Sys2Proof.Machine
end

