-- ==== Sys2Proof/Machine/Fetch.lean ====
section
/-! DEFINITION. Sys2Proof/Machine/Fetch.lean: fetching the instruction at `pc` (R64, R62), in the order of R413. -/

namespace Sys2Proof.Machine

/-- The `n` bytes from an address on, none if one of them is undefined. -/
def Memory.readBytes (m : Memory) (a : Nat) : Nat → Option (List Byte)
  | 0 => some []
  | n + 1 =>
    match Memory.read m a, Memory.readBytes m (a + 1) n with
    | some b, some bs => some (b :: bs)
    | _, _ => none

/-- The bytes of the instruction at `pc`, or the fault of the fetch: first Dirty (R62), then undefined bytes (R64). -/
def State.fetchBytes (s : State) : Except Fault (List Byte) :=
  if s.dirty.contains (lsa s.pc) then .error (.selfModifyingFetch s.pc)
  else
    match Memory.readBytes s.ls s.pc.toNat 4 with
    | some bs => .ok bs
    | none => .error (.noInstruction s.pc)

/-- The instruction at `pc`, or the fault of its fetch or of its decoding (R413). -/
def State.fetch (s : State) : Except Fault Instr :=
  match s.fetchBytes with
  | .error f => .error f
  | .ok bs =>
    match decode bs with
    | .ok (i, _) => .ok i
    | .error (.invalid w) => .error (.illegalInstruction w)
    | .error (.truncated _) => .error (.noInstruction s.pc)

/-- Puts the four bytes of a word where the next instruction is fetched, as a loader would: Dirty is not concerned
(R445), and the machine is running (log 8). -/
def State.placeWord (s : State) (w : Word) : State :=
  { s with ls := Memory.writeBytes s.ls s.pc.toNat (bytesOfWord w), dirty := s.dirty.erase (lsa s.pc), run := .running }

end Sys2Proof.Machine
end

