-- ==== Sys2Proof/Machine/Step.lean ====
section
/-! DEFINITION. Sys2Proof/Machine/Step.lean: one step: an interrupt at the boundary (R415), or the instruction at `pc`. -/

namespace Sys2Proof.Machine

/-- The end of a step on a next state; a stop stays as it is. -/
def finishStep : Host.Outcome State Fault Refusal → Host.Outcome State Fault Refusal
  | .next t => .next t.tick
  | .fault f => .fault f
  | .refused r => .refused r

/-- One step of the machine (R415, R64). -/
def step (s : State) : Host.Outcome State Fault Refusal :=
  match s.run with
  | .running =>
    if s.interrupted then .next s.takeInterrupt.tick
    else
      match s.fetch with
      | .ok i => finishStep (exec i s)
      | .error f => .fault f
  | .stopped => .fault (.notRunning .stopped)
  | .halted => .fault (.notRunning .halted)

/-- `s` with the instruction of an opcode-table word stored where `step` fetches its next instruction (log 8). -/
def State.withFetchWord (s : State) (nbits w : Nat) : State := s.placeWord (BitVec.ofNat 32 (w % 2 ^ nbits))

end Sys2Proof.Machine
end

