-- ==== Sys2Proof/Safety.lean ====
section
/-! DEFINITION. Sys2Proof/Safety.lean: the terms in which claims are stated: the invariant of the machine, what each
instruction may write, what an instruction leaves as it was, and the exact core of floating point. Nothing here is
used by the machine. -/

namespace Sys2Proof.Machine

/-! ## The invariant -/

/-- An instruction address: inside local storage and a multiple of 4 (R27). -/
def IsPc (a : Word) : Prop := a.toNat < Config.lsSize ∧ a.toNat % 4 = 0

/-- What a stopped or halted machine last told the outside world (R411, R412). -/
def State.EndTold (s : State) : Prop :=
  match s.run with
  | .running => True
  | .stopped => ∃ earlier, s.trace = earlier ++ [.stopAndSignal s.statusCode s.npc]
  | .halted => ∃ earlier, s.trace = earlier ++ [.halt s.pc]

/-- What every step keeps. -/
structure State.Inv (s : State) : Prop where
  /-- Local storage is in its canonical form. -/
  memory : Memory.wf s.ls = true
  /-- Dirty is a strictly rising list (R62). -/
  dirtyRising : rising s.dirty = true
  /-- Its members are addresses of quadwords of local storage (R51, R62). -/
  dirtyQuads : ∀ d ∈ s.dirty, d + 16 ≤ Config.lsSize ∧ d % 16 = 0
  /-- `pc` is an instruction address (R27). -/
  pc : IsPc s.pc
  /-- SRR0 holds an instruction address (R30, R416). -/
  srr0 : IsPc s.srr0
  /-- The SPU NPC register holds an instruction address (R391). -/
  npc : IsPc s.npc
  /-- Only the bits of FPSCR_MASK hold state (R31). -/
  fpscr : s.fpscr &&& ~~~Config.fpscrMask = 0
  /-- The end of the run is in the trace (R411, R412). -/
  told : s.EndTold

/-! ## What an instruction may write -/

/-- The general register an instruction has as its target (R23). False targets (R289 d, R384, R394) are none. -/
def target : Instr → Option Reg
  | .lqd rt _ _ | .lqx rt _ _ | .lqa rt _ | .lqr rt _ | .cbd rt _ _ | .cbx rt _ _ | .chd rt _ _ | .chx rt _ _
  | .cwd rt _ _ | .cwx rt _ _ | .cdd rt _ _ | .cdx rt _ _ | .il rt _ | .ila rt _ | .ilh rt _ | .ilhu rt _
  | .iohl rt _ | .fsmbi rt _ | .a rt _ _ | .ah rt _ _ | .ahi rt _ _ | .ai rt _ _ | .addx rt _ _ | .cg rt _ _
  | .cgx rt _ _ | .sf rt _ _ | .sfh rt _ _ | .sfhi rt _ _ | .sfi rt _ _ | .sfx rt _ _ | .bg rt _ _ | .bgx rt _ _
  | .mpy rt _ _ | .mpyu rt _ _ | .mpyi rt _ _ | .mpyui rt _ _ | .mpya rt _ _ _ | .mpyh rt _ _ | .mpys rt _ _
  | .mpyhh rt _ _ | .mpyhha rt _ _ | .mpyhhu rt _ _ | .mpyhhau rt _ _ | .clz rt _ | .cntb rt _ | .fsm rt _
  | .fsmh rt _ | .fsmb rt _ | .gb rt _ | .gbh rt _ | .gbb rt _ | .avgb rt _ _ | .absdb rt _ _ | .sumb rt _ _
  | .xsbh rt _ | .xshw rt _ | .xswd rt _ | .and rt _ _ | .andc rt _ _ | .andbi rt _ _ | .andhi rt _ _
  | .andi rt _ _ | .or rt _ _ | .orc rt _ _ | .orbi rt _ _ | .orhi rt _ _ | .ori rt _ _ | .orx rt _
  | .xor rt _ _ | .xorbi rt _ _ | .xorhi rt _ _ | .xori rt _ _ | .nand rt _ _ | .nor rt _ _ | .eqv rt _ _
  | .selb rt _ _ _ | .shufb rt _ _ _ | .shl rt _ _ | .shlh rt _ _ | .shlhi rt _ _ | .shli rt _ _
  | .shlqbi rt _ _ | .shlqbii rt _ _ | .shlqby rt _ _ | .shlqbybi rt _ _ | .shlqbyi rt _ _ | .rot rt _ _
  | .roth rt _ _ | .rothi rt _ _ | .roti rt _ _ | .rotqbi rt _ _ | .rotqbii rt _ _ | .rotqby rt _ _
  | .rotqbybi rt _ _ | .rotqbyi rt _ _ | .rotm rt _ _ | .rotmi rt _ _ | .rothm rt _ _ | .rothmi rt _ _
  | .rotma rt _ _ | .rotmai rt _ _ | .rotmah rt _ _ | .rotmahi rt _ _ | .rotqmbi rt _ _ | .rotqmbii rt _ _
  | .rotqmby rt _ _ | .rotqmbybi rt _ _ | .rotqmbyi rt _ _ | .ceqb rt _ _ | .ceqh rt _ _ | .ceq rt _ _
  | .ceqbi rt _ _ | .ceqhi rt _ _ | .ceqi rt _ _ | .cgtb rt _ _ | .cgth rt _ _ | .cgt rt _ _ | .cgtbi rt _ _
  | .cgthi rt _ _ | .cgti rt _ _ | .clgtb rt _ _ | .clgth rt _ _ | .clgt rt _ _ | .clgtbi rt _ _
  | .clgthi rt _ _ | .clgti rt _ _ | .brsl rt _ | .brasl rt _ | .bisl rt _ | .bisld rt _ | .bisle rt _
  | .bisled rt _ | .bisledd rt _ | .bislede rt _ | .fa rt _ _ | .fs rt _ _ | .fm rt _ _ | .fma rt _ _ _
  | .fms rt _ _ _ | .fnms rt _ _ _ | .dfa rt _ _ | .dfs rt _ _ | .dfm rt _ _ | .dfma rt _ _ | .dfms rt _ _
  | .dfnms rt _ _ | .dfnma rt _ _ | .frest rt _ | .frsqest rt _ | .fi rt _ _ | .fesd rt _ | .frds rt _
  | .cflts rt _ _ | .cfltu rt _ _ | .csflt rt _ _ | .cuflt rt _ _ | .fceq rt _ _ | .fcmeq rt _ _ | .fcgt rt _ _
  | .fcmgt rt _ _ | .fscrrd rt | .mfspr rt _ | .rdch rt _ | .rchcnt rt _ => some rt
  | .stqd _ _ _ | .stqx _ _ _ | .stqa _ _ | .stqr _ _ | .heq _ _ _ | .heqi _ _ _ | .hgt _ _ _ | .hgti _ _ _
  | .hlgt _ _ _ | .hlgti _ _ _ | .br _ | .bra _ | .bi _ | .bid _ | .bie _ | .iret _ | .iretd _ | .irete _
  | .brz _ _ | .brnz _ _ | .brhz _ _ | .brhnz _ _ | .biz _ _ | .bizd _ _ | .bize _ _ | .binz _ _ | .binzd _ _
  | .binze _ _ | .bihz _ _ | .bihzd _ _ | .bihze _ _ | .bihnz _ _ | .bihnzd _ _ | .bihnze _ _ | .hbr _ _
  | .hbra _ _ | .hbrr _ _ | .hbrp | .fscrwr _ _ | .stop _ | .stopd _ _ _ | .lnop | .nop _ | .sync | .syncc
  | .dsync | .mtspr _ _ | .wrch _ _ => none

/-- The value of IE that a taken branch of this form leaves (R301, R415): the sixteen suffixed forms. -/
def ieSuffix : Instr → Option Bool
  | .bid _ | .bisld _ _ | .bisledd _ _ | .iretd _ | .bizd _ _ | .binzd _ _ | .bihzd _ _ | .bihnzd _ _ => some false
  | .bie _ | .bisle _ _ | .bislede _ _ | .irete _ | .bize _ _ | .binze _ _ | .bihze _ _ | .bihnze _ _ => some true
  | .lqd _ _ _ | .lqx _ _ _ | .lqa _ _ | .lqr _ _ | .stqd _ _ _ | .stqx _ _ _ | .stqa _ _ | .stqr _ _
  | .cbd _ _ _ | .cbx _ _ _ | .chd _ _ _ | .chx _ _ _ | .cwd _ _ _ | .cwx _ _ _ | .cdd _ _ _ | .cdx _ _ _
  | .il _ _ | .ila _ _ | .ilh _ _ | .ilhu _ _ | .iohl _ _ | .fsmbi _ _ | .a _ _ _ | .ah _ _ _ | .ahi _ _ _
  | .ai _ _ _ | .addx _ _ _ | .cg _ _ _ | .cgx _ _ _ | .sf _ _ _ | .sfh _ _ _ | .sfhi _ _ _ | .sfi _ _ _
  | .sfx _ _ _ | .bg _ _ _ | .bgx _ _ _ | .mpy _ _ _ | .mpyu _ _ _ | .mpyi _ _ _ | .mpyui _ _ _ | .mpya _ _ _ _
  | .mpyh _ _ _ | .mpys _ _ _ | .mpyhh _ _ _ | .mpyhha _ _ _ | .mpyhhu _ _ _ | .mpyhhau _ _ _ | .clz _ _
  | .cntb _ _ | .fsm _ _ | .fsmh _ _ | .fsmb _ _ | .gb _ _ | .gbh _ _ | .gbb _ _ | .avgb _ _ _ | .absdb _ _ _
  | .sumb _ _ _ | .xsbh _ _ | .xshw _ _ | .xswd _ _ | .and _ _ _ | .andc _ _ _ | .andbi _ _ _ | .andhi _ _ _
  | .andi _ _ _ | .or _ _ _ | .orc _ _ _ | .orbi _ _ _ | .orhi _ _ _ | .ori _ _ _ | .orx _ _ | .xor _ _ _
  | .xorbi _ _ _ | .xorhi _ _ _ | .xori _ _ _ | .nand _ _ _ | .nor _ _ _ | .eqv _ _ _ | .selb _ _ _ _
  | .shufb _ _ _ _ | .shl _ _ _ | .shlh _ _ _ | .shlhi _ _ _ | .shli _ _ _ | .shlqbi _ _ _ | .shlqbii _ _ _
  | .shlqby _ _ _ | .shlqbybi _ _ _ | .shlqbyi _ _ _ | .rot _ _ _ | .roth _ _ _ | .rothi _ _ _ | .roti _ _ _
  | .rotqbi _ _ _ | .rotqbii _ _ _ | .rotqby _ _ _ | .rotqbybi _ _ _ | .rotqbyi _ _ _ | .rotm _ _ _
  | .rotmi _ _ _ | .rothm _ _ _ | .rothmi _ _ _ | .rotma _ _ _ | .rotmai _ _ _ | .rotmah _ _ _ | .rotmahi _ _ _
  | .rotqmbi _ _ _ | .rotqmbii _ _ _ | .rotqmby _ _ _ | .rotqmbybi _ _ _ | .rotqmbyi _ _ _ | .ceqb _ _ _
  | .ceqh _ _ _ | .ceq _ _ _ | .ceqbi _ _ _ | .ceqhi _ _ _ | .ceqi _ _ _ | .cgtb _ _ _ | .cgth _ _ _
  | .cgt _ _ _ | .cgtbi _ _ _ | .cgthi _ _ _ | .cgti _ _ _ | .clgtb _ _ _ | .clgth _ _ _ | .clgt _ _ _
  | .clgtbi _ _ _ | .clgthi _ _ _ | .clgti _ _ _ | .heq _ _ _ | .heqi _ _ _ | .hgt _ _ _ | .hgti _ _ _
  | .hlgt _ _ _ | .hlgti _ _ _ | .br _ | .bra _ | .brsl _ _ | .brasl _ _ | .bi _ | .bisl _ _ | .bisled _ _
  | .iret _ | .brz _ _ | .brnz _ _ | .brhz _ _ | .brhnz _ _ | .biz _ _ | .binz _ _ | .bihz _ _ | .bihnz _ _
  | .hbr _ _ | .hbra _ _ | .hbrr _ _ | .hbrp | .fa _ _ _ | .fs _ _ _ | .fm _ _ _ | .fma _ _ _ _ | .fms _ _ _ _
  | .fnms _ _ _ _ | .dfa _ _ _ | .dfs _ _ _ | .dfm _ _ _ | .dfma _ _ _ | .dfms _ _ _ | .dfnms _ _ _
  | .dfnma _ _ _ | .frest _ _ | .frsqest _ _ | .fi _ _ _ | .fesd _ _ | .frds _ _ | .cflts _ _ _ | .cfltu _ _ _
  | .csflt _ _ _ | .cuflt _ _ _ | .fceq _ _ _ | .fcmeq _ _ _ | .fcgt _ _ _ | .fcmgt _ _ _ | .fscrrd _
  | .fscrwr _ _ | .stop _ | .stopd _ _ _ | .lnop | .nop _ | .sync | .syncc | .dsync | .mfspr _ _ | .mtspr _ _
  | .rdch _ _ | .rchcnt _ _ | .wrch _ _ => none

/-- The address of the quadword an instruction stores to (R120, R125 to R128). -/
def storeTo (s : State) : Instr → Option Nat
  | .stqd _ s14 ra => some (lsa (s.eaD s14 ra))
  | .stqx _ ra rb => some (lsa (s.eaX ra rb))
  | .stqa _ s18 => some (lsa (off18 s18))
  | .stqr _ s18 => some (lsa (s.eaRel s18))
  | .lqd _ _ _ | .lqx _ _ _ | .lqa _ _ | .lqr _ _ | .cbd _ _ _ | .cbx _ _ _ | .chd _ _ _ | .chx _ _ _
  | .cwd _ _ _ | .cwx _ _ _ | .cdd _ _ _ | .cdx _ _ _ | .il _ _ | .ila _ _ | .ilh _ _ | .ilhu _ _ | .iohl _ _
  | .fsmbi _ _ | .a _ _ _ | .ah _ _ _ | .ahi _ _ _ | .ai _ _ _ | .addx _ _ _ | .cg _ _ _ | .cgx _ _ _
  | .sf _ _ _ | .sfh _ _ _ | .sfhi _ _ _ | .sfi _ _ _ | .sfx _ _ _ | .bg _ _ _ | .bgx _ _ _ | .mpy _ _ _
  | .mpyu _ _ _ | .mpyi _ _ _ | .mpyui _ _ _ | .mpya _ _ _ _ | .mpyh _ _ _ | .mpys _ _ _ | .mpyhh _ _ _
  | .mpyhha _ _ _ | .mpyhhu _ _ _ | .mpyhhau _ _ _ | .clz _ _ | .cntb _ _ | .fsm _ _ | .fsmh _ _ | .fsmb _ _
  | .gb _ _ | .gbh _ _ | .gbb _ _ | .avgb _ _ _ | .absdb _ _ _ | .sumb _ _ _ | .xsbh _ _ | .xshw _ _ | .xswd _ _
  | .and _ _ _ | .andc _ _ _ | .andbi _ _ _ | .andhi _ _ _ | .andi _ _ _ | .or _ _ _ | .orc _ _ _ | .orbi _ _ _
  | .orhi _ _ _ | .ori _ _ _ | .orx _ _ | .xor _ _ _ | .xorbi _ _ _ | .xorhi _ _ _ | .xori _ _ _ | .nand _ _ _
  | .nor _ _ _ | .eqv _ _ _ | .selb _ _ _ _ | .shufb _ _ _ _ | .shl _ _ _ | .shlh _ _ _ | .shlhi _ _ _
  | .shli _ _ _ | .shlqbi _ _ _ | .shlqbii _ _ _ | .shlqby _ _ _ | .shlqbybi _ _ _ | .shlqbyi _ _ _ | .rot _ _ _
  | .roth _ _ _ | .rothi _ _ _ | .roti _ _ _ | .rotqbi _ _ _ | .rotqbii _ _ _ | .rotqby _ _ _ | .rotqbybi _ _ _
  | .rotqbyi _ _ _ | .rotm _ _ _ | .rotmi _ _ _ | .rothm _ _ _ | .rothmi _ _ _ | .rotma _ _ _ | .rotmai _ _ _
  | .rotmah _ _ _ | .rotmahi _ _ _ | .rotqmbi _ _ _ | .rotqmbii _ _ _ | .rotqmby _ _ _ | .rotqmbybi _ _ _
  | .rotqmbyi _ _ _ | .ceqb _ _ _ | .ceqh _ _ _ | .ceq _ _ _ | .ceqbi _ _ _ | .ceqhi _ _ _ | .ceqi _ _ _
  | .cgtb _ _ _ | .cgth _ _ _ | .cgt _ _ _ | .cgtbi _ _ _ | .cgthi _ _ _ | .cgti _ _ _ | .clgtb _ _ _
  | .clgth _ _ _ | .clgt _ _ _ | .clgtbi _ _ _ | .clgthi _ _ _ | .clgti _ _ _ | .heq _ _ _ | .heqi _ _ _
  | .hgt _ _ _ | .hgti _ _ _ | .hlgt _ _ _ | .hlgti _ _ _ | .br _ | .bra _ | .brsl _ _ | .brasl _ _ | .bi _
  | .bid _ | .bie _ | .bisl _ _ | .bisld _ _ | .bisle _ _ | .bisled _ _ | .bisledd _ _ | .bislede _ _ | .iret _
  | .iretd _ | .irete _ | .brz _ _ | .brnz _ _ | .brhz _ _ | .brhnz _ _ | .biz _ _ | .bizd _ _ | .bize _ _
  | .binz _ _ | .binzd _ _ | .binze _ _ | .bihz _ _ | .bihzd _ _ | .bihze _ _ | .bihnz _ _ | .bihnzd _ _
  | .bihnze _ _ | .hbr _ _ | .hbra _ _ | .hbrr _ _ | .hbrp | .fa _ _ _ | .fs _ _ _ | .fm _ _ _ | .fma _ _ _ _
  | .fms _ _ _ _ | .fnms _ _ _ _ | .dfa _ _ _ | .dfs _ _ _ | .dfm _ _ _ | .dfma _ _ _ | .dfms _ _ _
  | .dfnms _ _ _ | .dfnma _ _ _ | .frest _ _ | .frsqest _ _ | .fi _ _ _ | .fesd _ _ | .frds _ _ | .cflts _ _ _
  | .cfltu _ _ _ | .csflt _ _ _ | .cuflt _ _ _ | .fceq _ _ _ | .fcmeq _ _ _ | .fcgt _ _ _ | .fcmgt _ _ _
  | .fscrrd _ | .fscrwr _ _ | .stop _ | .stopd _ _ _ | .lnop | .nop _ | .sync | .syncc | .dsync | .mfspr _ _
  | .mtspr _ _ | .rdch _ _ | .rchcnt _ _ | .wrch _ _ => none

/-- Whether an instruction may write the FPSCR (R378, R384). -/
def writesFpscr : Instr → Bool
  | .fa _ _ _ | .fs _ _ _ | .fm _ _ _ | .fma _ _ _ _ | .fms _ _ _ _ | .fnms _ _ _ _ | .dfa _ _ _ | .dfs _ _ _
  | .dfm _ _ _ | .dfma _ _ _ | .dfms _ _ _ | .dfnms _ _ _ | .dfnma _ _ _ | .frest _ _ | .frsqest _ _ | .fi _ _ _
  | .fesd _ _ | .frds _ _ | .cflts _ _ _ | .cfltu _ _ _ | .csflt _ _ _ | .cuflt _ _ _ | .fceq _ _ _
  | .fcmeq _ _ _ | .fcgt _ _ _ | .fcmgt _ _ _ | .fscrwr _ _ => true
  | .lqd _ _ _ | .lqx _ _ _ | .lqa _ _ | .lqr _ _ | .stqd _ _ _ | .stqx _ _ _ | .stqa _ _ | .stqr _ _
  | .cbd _ _ _ | .cbx _ _ _ | .chd _ _ _ | .chx _ _ _ | .cwd _ _ _ | .cwx _ _ _ | .cdd _ _ _ | .cdx _ _ _
  | .il _ _ | .ila _ _ | .ilh _ _ | .ilhu _ _ | .iohl _ _ | .fsmbi _ _ | .a _ _ _ | .ah _ _ _ | .ahi _ _ _
  | .ai _ _ _ | .addx _ _ _ | .cg _ _ _ | .cgx _ _ _ | .sf _ _ _ | .sfh _ _ _ | .sfhi _ _ _ | .sfi _ _ _
  | .sfx _ _ _ | .bg _ _ _ | .bgx _ _ _ | .mpy _ _ _ | .mpyu _ _ _ | .mpyi _ _ _ | .mpyui _ _ _ | .mpya _ _ _ _
  | .mpyh _ _ _ | .mpys _ _ _ | .mpyhh _ _ _ | .mpyhha _ _ _ | .mpyhhu _ _ _ | .mpyhhau _ _ _ | .clz _ _
  | .cntb _ _ | .fsm _ _ | .fsmh _ _ | .fsmb _ _ | .gb _ _ | .gbh _ _ | .gbb _ _ | .avgb _ _ _ | .absdb _ _ _
  | .sumb _ _ _ | .xsbh _ _ | .xshw _ _ | .xswd _ _ | .and _ _ _ | .andc _ _ _ | .andbi _ _ _ | .andhi _ _ _
  | .andi _ _ _ | .or _ _ _ | .orc _ _ _ | .orbi _ _ _ | .orhi _ _ _ | .ori _ _ _ | .orx _ _ | .xor _ _ _
  | .xorbi _ _ _ | .xorhi _ _ _ | .xori _ _ _ | .nand _ _ _ | .nor _ _ _ | .eqv _ _ _ | .selb _ _ _ _
  | .shufb _ _ _ _ | .shl _ _ _ | .shlh _ _ _ | .shlhi _ _ _ | .shli _ _ _ | .shlqbi _ _ _ | .shlqbii _ _ _
  | .shlqby _ _ _ | .shlqbybi _ _ _ | .shlqbyi _ _ _ | .rot _ _ _ | .roth _ _ _ | .rothi _ _ _ | .roti _ _ _
  | .rotqbi _ _ _ | .rotqbii _ _ _ | .rotqby _ _ _ | .rotqbybi _ _ _ | .rotqbyi _ _ _ | .rotm _ _ _
  | .rotmi _ _ _ | .rothm _ _ _ | .rothmi _ _ _ | .rotma _ _ _ | .rotmai _ _ _ | .rotmah _ _ _ | .rotmahi _ _ _
  | .rotqmbi _ _ _ | .rotqmbii _ _ _ | .rotqmby _ _ _ | .rotqmbybi _ _ _ | .rotqmbyi _ _ _ | .ceqb _ _ _
  | .ceqh _ _ _ | .ceq _ _ _ | .ceqbi _ _ _ | .ceqhi _ _ _ | .ceqi _ _ _ | .cgtb _ _ _ | .cgth _ _ _
  | .cgt _ _ _ | .cgtbi _ _ _ | .cgthi _ _ _ | .cgti _ _ _ | .clgtb _ _ _ | .clgth _ _ _ | .clgt _ _ _
  | .clgtbi _ _ _ | .clgthi _ _ _ | .clgti _ _ _ | .heq _ _ _ | .heqi _ _ _ | .hgt _ _ _ | .hgti _ _ _
  | .hlgt _ _ _ | .hlgti _ _ _ | .br _ | .bra _ | .brsl _ _ | .brasl _ _ | .bi _ | .bid _ | .bie _ | .bisl _ _
  | .bisld _ _ | .bisle _ _ | .bisled _ _ | .bisledd _ _ | .bislede _ _ | .iret _ | .iretd _ | .irete _
  | .brz _ _ | .brnz _ _ | .brhz _ _ | .brhnz _ _ | .biz _ _ | .bizd _ _ | .bize _ _ | .binz _ _ | .binzd _ _
  | .binze _ _ | .bihz _ _ | .bihzd _ _ | .bihze _ _ | .bihnz _ _ | .bihnzd _ _ | .bihnze _ _ | .hbr _ _
  | .hbra _ _ | .hbrr _ _ | .hbrp | .fscrrd _ | .stop _ | .stopd _ _ _ | .lnop | .nop _ | .sync | .syncc
  | .dsync | .mfspr _ _ | .mtspr _ _ | .rdch _ _ | .rchcnt _ _ | .wrch _ _ => false

/-- The special purpose register an instruction names (R32). -/
def sprNamed : Instr → Option SprNum
  | .mfspr _ spr | .mtspr spr _ => some spr
  | .lqd _ _ _ | .lqx _ _ _ | .lqa _ _ | .lqr _ _ | .stqd _ _ _ | .stqx _ _ _ | .stqa _ _ | .stqr _ _
  | .cbd _ _ _ | .cbx _ _ _ | .chd _ _ _ | .chx _ _ _ | .cwd _ _ _ | .cwx _ _ _ | .cdd _ _ _ | .cdx _ _ _
  | .il _ _ | .ila _ _ | .ilh _ _ | .ilhu _ _ | .iohl _ _ | .fsmbi _ _ | .a _ _ _ | .ah _ _ _ | .ahi _ _ _
  | .ai _ _ _ | .addx _ _ _ | .cg _ _ _ | .cgx _ _ _ | .sf _ _ _ | .sfh _ _ _ | .sfhi _ _ _ | .sfi _ _ _
  | .sfx _ _ _ | .bg _ _ _ | .bgx _ _ _ | .mpy _ _ _ | .mpyu _ _ _ | .mpyi _ _ _ | .mpyui _ _ _ | .mpya _ _ _ _
  | .mpyh _ _ _ | .mpys _ _ _ | .mpyhh _ _ _ | .mpyhha _ _ _ | .mpyhhu _ _ _ | .mpyhhau _ _ _ | .clz _ _
  | .cntb _ _ | .fsm _ _ | .fsmh _ _ | .fsmb _ _ | .gb _ _ | .gbh _ _ | .gbb _ _ | .avgb _ _ _ | .absdb _ _ _
  | .sumb _ _ _ | .xsbh _ _ | .xshw _ _ | .xswd _ _ | .and _ _ _ | .andc _ _ _ | .andbi _ _ _ | .andhi _ _ _
  | .andi _ _ _ | .or _ _ _ | .orc _ _ _ | .orbi _ _ _ | .orhi _ _ _ | .ori _ _ _ | .orx _ _ | .xor _ _ _
  | .xorbi _ _ _ | .xorhi _ _ _ | .xori _ _ _ | .nand _ _ _ | .nor _ _ _ | .eqv _ _ _ | .selb _ _ _ _
  | .shufb _ _ _ _ | .shl _ _ _ | .shlh _ _ _ | .shlhi _ _ _ | .shli _ _ _ | .shlqbi _ _ _ | .shlqbii _ _ _
  | .shlqby _ _ _ | .shlqbybi _ _ _ | .shlqbyi _ _ _ | .rot _ _ _ | .roth _ _ _ | .rothi _ _ _ | .roti _ _ _
  | .rotqbi _ _ _ | .rotqbii _ _ _ | .rotqby _ _ _ | .rotqbybi _ _ _ | .rotqbyi _ _ _ | .rotm _ _ _
  | .rotmi _ _ _ | .rothm _ _ _ | .rothmi _ _ _ | .rotma _ _ _ | .rotmai _ _ _ | .rotmah _ _ _ | .rotmahi _ _ _
  | .rotqmbi _ _ _ | .rotqmbii _ _ _ | .rotqmby _ _ _ | .rotqmbybi _ _ _ | .rotqmbyi _ _ _ | .ceqb _ _ _
  | .ceqh _ _ _ | .ceq _ _ _ | .ceqbi _ _ _ | .ceqhi _ _ _ | .ceqi _ _ _ | .cgtb _ _ _ | .cgth _ _ _
  | .cgt _ _ _ | .cgtbi _ _ _ | .cgthi _ _ _ | .cgti _ _ _ | .clgtb _ _ _ | .clgth _ _ _ | .clgt _ _ _
  | .clgtbi _ _ _ | .clgthi _ _ _ | .clgti _ _ _ | .heq _ _ _ | .heqi _ _ _ | .hgt _ _ _ | .hgti _ _ _
  | .hlgt _ _ _ | .hlgti _ _ _ | .br _ | .bra _ | .brsl _ _ | .brasl _ _ | .bi _ | .bid _ | .bie _ | .bisl _ _
  | .bisld _ _ | .bisle _ _ | .bisled _ _ | .bisledd _ _ | .bislede _ _ | .iret _ | .iretd _ | .irete _
  | .brz _ _ | .brnz _ _ | .brhz _ _ | .brhnz _ _ | .biz _ _ | .bizd _ _ | .bize _ _ | .binz _ _ | .binzd _ _
  | .binze _ _ | .bihz _ _ | .bihzd _ _ | .bihze _ _ | .bihnz _ _ | .bihnzd _ _ | .bihnze _ _ | .hbr _ _
  | .hbra _ _ | .hbrr _ _ | .hbrp | .fa _ _ _ | .fs _ _ _ | .fm _ _ _ | .fma _ _ _ _ | .fms _ _ _ _
  | .fnms _ _ _ _ | .dfa _ _ _ | .dfs _ _ _ | .dfm _ _ _ | .dfma _ _ _ | .dfms _ _ _ | .dfnms _ _ _
  | .dfnma _ _ _ | .frest _ _ | .frsqest _ _ | .fi _ _ _ | .fesd _ _ | .frds _ _ | .cflts _ _ _ | .cfltu _ _ _
  | .csflt _ _ _ | .cuflt _ _ _ | .fceq _ _ _ | .fcmeq _ _ _ | .fcgt _ _ _ | .fcmgt _ _ _ | .fscrrd _
  | .fscrwr _ _ | .stop _ | .stopd _ _ _ | .lnop | .nop _ | .sync | .syncc | .dsync | .rdch _ _ | .rchcnt _ _
  | .wrch _ _ => none

/-! ## Frames -/

/-- The instruction address that a number names: modulo LS_SIZE, down to a multiple of 4 (R27). -/
def pcOf (n : Int) : Word := BitVec.ofInt 32 (n % Config.lsSize / 4 * 4)

/-- The address of the quadword that a number names: modulo LS_SIZE, down to a multiple of 16 (R51). -/
def quadOf (n : Int) : Nat := (n % Config.lsSize / 16 * 16).toNat

/-- The address of the next instruction (R26). -/
def nextPc (s : State) : Word := pcOf (s.pc.toNat + 4)

/-- The target of a relative branch: the two low bits of the offset are ignored (R300 b). -/
def relativePc (s : State) (s18 : BitVec 18) : Word := pcOf (s.pc.toNat + s18.toInt / 4 * 4)

/-- The target of an indirect branch (R300 d). -/
def indirectPc (s : State) (ra : Reg) : Word := pcOf (wordOf (s.reg ra) 0).toNat

/-- Every general register as before. -/
def SameRegs (s t : State) : Prop := ∀ q, t.reg q = s.reg q

/-- Every general register but one as before. -/
def SameRegsBut (rt : Reg) (s t : State) : Prop := ∀ q, q ≠ rt → t.reg q = s.reg q

/-- Every byte of memory as before, and Dirty. -/
structure SameMemory (s t : State) : Prop where
  bytes : ∀ a, Memory.read t.ls a = Memory.read s.ls a
  dirty : t.dirty = s.dirty

/-- The special registers as before. -/
structure SameSpecial (s t : State) : Prop where
  srr0 : t.srr0 = s.srr0
  npc : t.npc = s.npc
  statusCode : t.statusCode = s.statusCode
  sprs : ∀ n, t.spr n = s.spr n

/-- The run state, the channels and the model's own fields as before. -/
structure SameOutside (s t : State) : Prop where
  run : t.run = s.run
  stalled : t.stalled = s.stalled
  trace : t.trace = s.trace
  script : t.script = s.script
  now : t.now = s.now

/-- Nothing but general registers, FPSCR, IE and `pc` differs. -/
structure Quiet (s t : State) : Prop where
  memory : SameMemory s t
  special : SameSpecial s t
  outside : SameOutside s t

/-- An instruction whose one effect is a register: it completes in a state `t` that is `s` with `pc` at the next
instruction (R26) and a value in `rt` of which `R` holds. -/
def Computes (i : Instr) (s : State) (rt : Reg) (R : Quad → Prop) : Prop :=
  ∃ t, exec i s = .next t ∧ R (t.reg rt) ∧ t.pc = nextPc s ∧ SameRegsBut rt s t ∧ Quiet s t ∧
    t.fpscr = s.fpscr ∧ t.ie = s.ie

/-- The same for a floating-point instruction, which also writes the FPSCR (R378). -/
def FpComputes (i : Instr) (s : State) (op : Config.FpOp) (inputs : List Quad) (rt : Reg) (R : Quad → Prop) : Prop :=
  ∃ t, exec i s = .next t ∧ R (t.reg rt) ∧ t.pc = nextPc s ∧ SameRegsBut rt s t ∧ Quiet s t ∧
    t.fpscr = Config.fpscrAfter op inputs s.fpscr &&& Config.fpscrMask ∧ t.ie = s.ie

/-- An instruction that stores the quadword `v` at `a` and adds `a` to Dirty (R53, R62): every byte outside the sixteen
at `a` is as before. -/
def Stores (i : Instr) (s : State) (a : Nat) (v : Quad) : Prop :=
  ∃ t, exec i s = .next t ∧ (∀ k, k < 16 → Memory.read t.ls (a + k) = some (byteOf v k)) ∧
    (∀ b, (b < a ∨ a + 16 ≤ b) → Memory.read t.ls b = Memory.read s.ls b) ∧
    (∀ d, d ∈ t.dirty ↔ d = a ∨ d ∈ s.dirty) ∧ t.pc = nextPc s ∧ SameRegs s t ∧ SameSpecial s t ∧
    SameOutside s t ∧ t.fpscr = s.fpscr ∧ t.ie = s.ie

/-- An instruction whose one effect is where the machine goes on, and perhaps IE. -/
def Goes (i : Instr) (s : State) (pc : Word) (ie : Bool) : Prop :=
  ∃ t, exec i s = .next t ∧ t.pc = pc ∧ t.ie = ie ∧ SameRegs s t ∧ Quiet s t ∧ t.fpscr = s.fpscr

/-- A conditional branch: to the target, with IE as given, when `c` holds, and else on with IE unchanged (R301). -/
def GoesIf (i : Instr) (s : State) (c : Prop) (pc : Word) (ie : Bool) : Prop :=
  (c → Goes i s pc ie) ∧ (¬ c → Goes i s (nextPc s) s.ie)

/-- A branch with the return address in word element 0 of `rt` and zeros in the others (R300 f). -/
def Links (i : Instr) (s : State) (rt : Reg) (pc : Word) (ie : Bool) : Prop :=
  ∃ t, exec i s = .next t ∧ t.pc = pc ∧ t.ie = ie ∧
    (wordOf (t.reg rt) 0).toNat = (s.pc.toNat + 4) % Config.lsSize ∧ (∀ k, 0 < k → k < 4 → wordOf (t.reg rt) k = 0#32) ∧
    SameRegsBut rt s t ∧ Quiet s t ∧ t.fpscr = s.fpscr

/-- An instruction that halts the machine where it stands when `b` holds, and else goes on (R289, R412). -/
def HaltsIf (i : Instr) (s : State) (b : Prop) : Prop :=
  ∃ t, exec i s = .next t ∧ SameRegs s t ∧ SameMemory s t ∧ SameSpecial s t ∧ t.fpscr = s.fpscr ∧ t.ie = s.ie ∧
    t.stalled = s.stalled ∧ t.script = s.script ∧ t.now = s.now ∧
    (b → t.run = .halted ∧ t.pc = s.pc ∧ t.trace = s.trace ++ [.halt s.pc]) ∧
    (¬ b → t.run = s.run ∧ t.pc = nextPc s ∧ t.trace = s.trace)

/-! ## Insertion controls -/

/-- The first byte of the field of `n` bytes that an address names inside its quadword (R129). -/
def fieldAt (n ea : Nat) : Nat := ea % 16 / n * n

/-- The control value of R129 for `n` bytes, the scalar starting at byte `first`. -/
def IsInsertion (n first ea : Nat) (v : Quad) : Prop :=
  ∀ k, k < 16 → (byteOf v k).toNat =
    if fieldAt n ea ≤ k ∧ k < fieldAt n ea + n then first + (k - fieldAt n ea) else 0x10 + k

/-- The property the source requires of an insertion control (R129): with the control register that `i` leaves in `rt`,
`shufb` replaces exactly the field by the scalar of its first source. -/
def InsertsScalar (i : Instr) (s : State) (rt : Reg) (n first ea : Nat) : Prop :=
  ∃ t, exec i s = .next t ∧ ∀ (u : State) (r v q c : Reg), u.reg c = t.reg rt →
    Computes (.shufb r v q c) u r fun x => ∀ k, k < 16 → byteOf x k =
      if fieldAt n ea ≤ k ∧ k < fieldAt n ea + n then byteOf (u.reg v) (first + (k - fieldAt n ea))
      else byteOf (u.reg q) k

/-! ## Floating point -/

/-- The pattern `bits` is a core value of the format, and its value is `x` (R350 c, d). -/
def IsCore (f : FpFormat) (bits : Nat) (x : ℚ) : Prop :=
  (bits = 0 ∧ x = 0) ∨
    ∃ sign e fraction : Nat, sign < 2 ∧ 1 ≤ e ∧ e + 1 < 2 ^ f.exp ∧ fraction < 2 ^ f.frac ∧
      bits = sign * 2 ^ (f.frac + f.exp) + e * 2 ^ f.frac + fraction ∧
      x = (-1) ^ sign * 2 ^ ((e : ℤ) - f.bias) * (1 + fraction / 2 ^ f.frac)

/-- A single-precision element that is core. -/
def CoreSp (w : Word) (x : ℚ) : Prop := IsCore single w.toNat x
/-- A double-precision element that is core. -/
def CoreDp (d : DWord) (x : ℚ) : Prop := IsCore double d.toNat x

end Sys2Proof.Machine
end

