-- ==== Sys2Proof/Certificates/Slice0/Obligations.lean ====
section
/-! DEFINITION. Sys2Proof/Certificates/Slice0/Obligations.lean: the statements for the provers, each about every state
and every operand it names. Where one says that nothing else changes, the frame stands in Safety.lean: `Computes`,
`FpComputes`, `Stores`, `Goes`, `GoesIf`, `Links`, `HaltsIf`. "pc at the next instruction" is pc + 4 modulo LS_SIZE
(R26, R27; D6, log 14). -/

open Sys2Proof Sys2Proof.Machine

/-- Decoding the bytes of any instruction gives it back, the low bits that R71 ignores cleared, and the rest of the
bytes. (30_encoding.md Part B (R78, R79, R80, R85) and rule R71) The binary level is general knowledge that the spec
adopts (log 10); the ignored bits are log 13, the bits of an operand outside its range of R71 log 12. -/
def Obligations.DecodeEncodeRoundTrip : Prop :=
  ∀ (i : Instr) (rest : List Byte),
    decode (encodeBytes i ++ rest) = .ok (i.clearIgnored, rest) ∧
    (i.clearIgnored = i → decode (encodeBytes i ++ rest) = .ok (i, rest))

/-- At most one row of the opcode table matches a word; the decoder answers that row, and invalid when none matches.
(30_encoding.md rule R85 (derived there) and R80) The binary level is general knowledge that the spec adopts (log 10);
that an unmatched word is invalid is decision D20. -/
def Obligations.AtMostOneRowMatches : Prop :=
  ∀ w : Word,
    (∀ (j k : Nat) (r q : OpRow), opTable[j]? = some r → opTable[k]? = some q → r.hits w = true → q.hits w =
      true → j = k) ∧
    (∀ r ∈ opTable, r.hits w = true → decodeWord w = .ok (r.build w)) ∧
    ((∀ r ∈ opTable, r.hits w = false) → decodeWord w = .error (.invalid w))

/-- An indirect branch word with D and E both set, and an hbr word with P set and an offset, decode to nothing.
(30_encoding.md rule R81 (general knowledge; D21, S5)) The model follows decision D21 and conflict S5 of the spec here
(log 11). -/
def Obligations.DoublySuffixedBranchesAreInvalid : Prop :=
  ∀ w : Word,
    (w.extractLsb' 21 11 ∈ [0b00110101000#11, 0b00110101001#11, 0b00110101010#11, 0b00110101011#11,
        0b00100101000#11, 0b00100101001#11, 0b00100101010#11, 0b00100101011#11] →
      w.getLsbD 19 = true → w.getLsbD 18 = true → decodeWord w = .error (.invalid w)) ∧
    (w.extractLsb' 21 11 = 0b00110101100#11 → w.getLsbD 20 = true →
      (w.extractLsb' 14 2 ≠ 0#2 ∨ w.extractLsb' 0 7 ≠ 0#7) → decodeWord w = .error (.invalid w))

/-- What the word of any instruction decodes to does exactly what that instruction does. (30_encoding.md rules R71 and
R79) -/
def Obligations.EncodedStatementDoesTheSame : Prop :=
  ∀ i : Instr, ∃ j, decodeWord (encode i) = .ok j ∧ ∀ s, exec j s = exec i s

/-- Twelve words of the worked examples of the spec, one or more of each family, decode to their statements.
(95_test_vectors.md and the worked examples of 41 to 49) The binary level is general knowledge that the spec adopts
(log 10). -/
def Obligations.SpecWordsDecode : Prop :=
  decodeWord 0x34008107#32 = .ok (.lqd 7#7 0x20#14 2#7) ∧
    decodeWord 0x23FFF806#32 = .ok (.stqr 6#7 (BitVec.ofInt 18 (-0x40))) ∧
    decodeWord 0x40C00003#32 = .ok (.il 3#7 (BitVec.ofInt 16 (-32768))) ∧
    decodeWord 0x1DFFC203#32 = .ok (.ahi 3#7 4#7 (BitVec.ofInt 10 (-1))) ∧
    decodeWord 0xC062440A#32 = .ok (.mpya 3#7 8#7 9#7 10#7) ∧
    decodeWord 0xB0614206#32 = .ok (.shufb 3#7 4#7 5#7 6#7) ∧
    decodeWord 0x0FE10203#32 = .ok (.shlhi 3#7 4#7 4#7) ∧
    decodeWord 0x4EFFC203#32 = .ok (.cgtbi 3#7 4#7 (BitVec.ofInt 10 (-1))) ∧
    decodeWord 0x327FE000#32 = .ok (.br (BitVec.ofInt 18 (-0x100))) ∧
    decodeWord 0x25080205#32 = .ok (.bizd 5#7 4#7) ∧
    decodeWord 0x760B8203#32 = .ok (.cflts 3#7 4#7 127#8) ∧
    decodeWord 0x21A00184#32 = .ok (.wrch 3#7 4#7)

/-- Where four bytes that decode to an instruction stand at pc, a step is exec of that instruction. (20_memory.md rule
R64 and 60_exceptions.md rule R415) The counter (log 28), the script (log 25) and the flag stalled, which keeps an
interrupt from being taken (log 27), are the model's own. -/
def Obligations.StepRunsDecodedInstruction : Prop :=
  ∀ (s : State) (i : Instr) (b0 b1 b2 b3 : Byte),
    s.run = .running → ¬ (s.ie = true ∧ s.stalled = false ∧ s.irq = true) → lsa s.pc ∉ s.dirty →
    Memory.read s.ls s.pc.toNat = some b0 → Memory.read s.ls (s.pc.toNat + 1) = some b1 →
    Memory.read s.ls (s.pc.toNat + 2) = some b2 → Memory.read s.ls (s.pc.toNat + 3) = some b3 →
    decode [b0, b1, b2, b3] = .ok (i, []) →
    (∀ t, exec i s = .next t → step s = .next { t with now := t.now + 1, script := t.script.tail }) ∧
    (∀ f, exec i s = .fault f → step s = .fault f) ∧
    (∀ r, exec i s = .refused r → step s = .refused r)

/-- A running machine with IE = 1 and a request takes the interrupt: SRR0 from pc, IE 0, pc 0, and nothing else of the
machine. (60_exceptions.md rules R415 and R416 (general knowledge adopted there, D17)) The entry is the spec's adopted
general knowledge (log 30), that a stalled access is not interrupted is the model's choice (log 27), and the counter
of steps and the script, which move on, are the model's own (logs 25 and 28). -/
def Obligations.InterruptEntry : Prop :=
  ∀ s : State, s.run = .running → s.ie = true → s.stalled = false → s.irq = true →
    ∃ t, step s = .next t ∧ t.srr0 = s.pc ∧ t.ie = false ∧ t.pc = 0#32 ∧ SameRegs s t ∧ SameMemory s t ∧
      t.fpscr = s.fpscr ∧ (∀ n, t.spr n = s.spr n) ∧ t.npc = s.npc ∧ t.statusCode = s.statusCode ∧ t.run = s.run ∧
      t.trace = s.trace ∧ t.stalled = s.stalled ∧ t.now = s.now + 1 ∧ t.script = s.script.tail

/-- A fetch stops by name, in the order of R413: stored-to quadword, undefined bytes, invalid word; a stopped machine
is stuck. (60_exceptions.md rule R413; 20_memory.md rules R62 and R64; 30_encoding.md rule R82) In run state stopped
or halted step is the fault notRunning (the model's form of the spec's stuck state, log 32). -/
def Obligations.FetchFaultsInOrder : Prop :=
  ∀ s : State,
    (s.run = .running → ¬ (s.ie = true ∧ s.stalled = false ∧ s.irq = true) →
      (lsa s.pc ∈ s.dirty → step s = .fault (.selfModifyingFetch s.pc)) ∧
      (lsa s.pc ∉ s.dirty → (∃ k, k < 4 ∧ Memory.read s.ls (s.pc.toNat + k) = none) →
        step s = .fault (.noInstruction s.pc)) ∧
      (lsa s.pc ∉ s.dirty → ∀ b0 b1 b2 b3 : Byte,
        Memory.read s.ls s.pc.toNat = some b0 → Memory.read s.ls (s.pc.toNat + 1) = some b1 →
        Memory.read s.ls (s.pc.toNat + 2) = some b2 → Memory.read s.ls (s.pc.toNat + 3) = some b3 →
        (∀ r ∈ opTable, r.hits (b0 ++ b1 ++ b2 ++ b3) = false) →
        step s = .fault (.illegalInstruction (b0 ++ b1 ++ b2 ++ b3)))) ∧
    (s.run ≠ .running → step s = .fault (.notRunning s.run))

/-- Every step from a state that meets the invariant gives a state that meets it. (10_state.md rules R27, R30, R31,
R33; 20_memory.md rules R51, R53, R62; 60_exceptions.md rules R411, R412, R416) -/
def Obligations.InvariantKept : Prop :=
  ∀ s t : State, s.Inv → step s = .next t → t.Inv

/-- The state at program entry meets the invariant. (10_state.md rule R39; 70_reset_and_hazards.md rule R441) The
reset values of pc, SRR0, NPC and FPSCR that it rests on are the model's (logs 2 and 5). -/
def Obligations.InvariantAtReset : Prop :=
  State.reset.Inv

/-- What program entry leaves: the stack pointer, the two back-chain words, IE, the run state, Dirty, no event.
(10_state.md rule R39; 40_abi.md rule R112) At reset word element 0 of register 1 is 0x3FFD0, the word at 0x3FFD0 is
0x3FFF0 and the word at 0x3FFF0 is 0 (both big-endian), every other byte of local storage is undefined, the machine is
running, Dirty and the trace are empty, nothing is stalled, and IE is 0 (decision D17, log 6). What the spec leaves
unspecified (logs 2 to 5, 29) is not stated. -/
def Obligations.EntryState : Prop :=
  wordOf (State.reset.reg 1#7) 0 = 0x3FFD0#32 ∧
    wordOf (Memory.loadQuad State.reset.ls 0x3FFD0) 0 = 0x3FFF0#32 ∧
    wordOf (Memory.loadQuad State.reset.ls 0x3FFF0) 0 = 0#32 ∧
    (∀ a, ¬ (0x3FFD0 ≤ a ∧ a < 0x3FFD4) → ¬ (0x3FFF0 ≤ a ∧ a < 0x3FFF4) → Memory.read State.reset.ls a = none) ∧
    State.reset.run = .running ∧ State.reset.dirty = [] ∧ State.reset.trace = [] ∧ State.reset.stalled = false ∧
    State.reset.ie = false

/-- Only interrupt entry writes SRR0; only it and the sixteen suffixed branches write IE, each its own value.
(60_exceptions.md rules R415 and R416 (general knowledge adopted there, D17); 10_state.md rules R28 and R30) What the
entry writes is the spec's adopted general knowledge (R416, D17; log 30), that a stalled access is not interrupted is
the model's choice (log 27). -/
def Obligations.InterruptEnableWriters : Prop :=
  ∀ s t : State, step s = .next t →
    (s.run = .running ∧ s.ie = true ∧ s.stalled = false ∧ s.irq = true ∧
      t.srr0 = s.pc ∧ t.pc = 0#32 ∧ t.ie = false) ∨
    (∃ i, s.fetch = .ok i ∧ t.srr0 = s.srr0 ∧ (t.ie = s.ie ∨ ieSuffix i = some t.ie))

/-- An instruction changes no byte of memory outside the quadword it stores to, and only stores and sync touch Dirty.
(20_memory.md rules R53 and R62; 43_integer_arithmetic.md rule R150; 47_branch_hint.md rule R300) -/
def Obligations.OnlyStoresWriteMemory : Prop :=
  ∀ (i : Instr) (s t : State), exec i s = .next t →
    (∀ a, (∀ b, storeTo s i = some b → a < b ∨ b + 16 ≤ a) → Memory.read t.ls a = Memory.read s.ls a) ∧
    (storeTo s i = none → i ≠ .sync → i ≠ .syncc → t.dirty = s.dirty)

/-- An instruction changes no general register but its target, and none when it has no target. (10_state.md rules R22
and R23; 46_compare_halt.md rule R289) -/
def Obligations.OnlyTargetsChange : Prop :=
  ∀ (i : Instr) (s t : State), exec i s = .next t → ∀ q, target i ≠ some q → t.reg q = s.reg q

/-- FPSCR, the SPRs, NPC, the status code and the trace change only by the instructions that write them, the trace by
their events. (48_floating_point.md rules R378 and R384; 49_control_channel.md rules R391, R392, R399, R400, R402;
60_exceptions.md rules R411 and R412) What the trace lists is the model's choice (log 26); that an SPR holds what
mtspr wrote and nothing else is the model's SPR map (log 29). -/
def Obligations.SpecialRegisterWriters : Prop :=
  ∀ (i : Instr) (s t : State), exec i s = .next t →
    (writesFpscr i = false → t.fpscr = s.fpscr) ∧
    (∀ n, (∀ ra, i ≠ .mtspr n ra) → t.spr n = s.spr n) ∧
    ((∀ u14, i ≠ .stop u14) → (∀ ra rb rc, i ≠ .stopd ra rb rc) → t.npc = s.npc ∧ t.statusCode = s.statusCode) ∧
    (t.trace = s.trace ∨
      (∃ rt ch v, i = .rdch rt ch ∧ s.chRead ch = some v ∧ t.trace = s.trace ++ [.chRead ch v]) ∨
      (∃ ch ra, i = .wrch ch ra ∧ s.chWrite ch (s.reg ra) = true ∧ t.trace = s.trace ++ [.chWrite ch (s.reg ra)]) ∨
      (∃ u14, i = .stop u14 ∧ t.trace = s.trace ++ [.stopAndSignal u14 t.npc]) ∨
      (∃ ra rb rc, i = .stopd ra rb rc ∧ t.trace = s.trace ++ [.stopAndSignal 0x3FFF#14 t.npc]) ∨
      ((∃ rt ra rb, i = .heq rt ra rb ∨ i = .hgt rt ra rb ∨ i = .hlgt rt ra rb) ∧
        t.trace = s.trace ++ [.halt s.pc]) ∨
      ((∃ rt ra s10, i = .heqi rt ra s10 ∨ i = .hgti rt ra s10 ∨ i = .hlgti rt ra s10) ∧
        t.trace = s.trace ++ [.halt s.pc]))

/-- Every instruction answers a next state in every state in which the special register it names, if any, is mapped.
(60_exceptions.md rules R410 and R413; 49_control_channel.md rule R398) It rests on three readings of the model:
reading a register that nothing has written is no fault (R413 lists UnwrittenRead; log 3), a floating-point result
outside the exact core is a free value (log 21), and an rdch or wrch whose channel is blocked, which R400 says does
not complete, answers a next state that waits (log 27). -/
def Obligations.EveryInstructionAnswers : Prop :=
  ∀ (i : Instr) (s : State), (∀ n, sprNamed i = some n → s.spr n ≠ none) → ∃ t, exec i s = .next t

/-- lqd, lqx, lqa, lqr: the sixteen bytes of the aligned quadword at the effective address, lowest address first.
(41_load_store.md section Loads (R120 to R124); 20_memory.md rules R51, R52, R54) An undefined byte is an unknown
value (U2, log 7). The reduction of addresses and the byte order are decisions D2, D4, D5 of the spec (logs 9, 14). -/
def Obligations.LoadQuadword : Prop :=
  ∀ (rt ra rb : Reg) (s14 : BitVec 14) (s18 : BitVec 18) (s : State),
    (Computes (.lqd rt s14 ra) s rt fun v => ∀ k, k < 16 →
      byteOf v k = Memory.byte s.ls (quadOf ((wordOf (s.reg ra) 0).toNat + s14.toInt / 16 * 16) + k)) ∧
    (Computes (.lqx rt ra rb) s rt fun v => ∀ k, k < 16 →
      byteOf v k = Memory.byte s.ls (quadOf ((wordOf (s.reg ra) 0).toNat + (wordOf (s.reg rb) 0).toNat) + k)) ∧
    (Computes (.lqa rt s18) s rt fun v => ∀ k, k < 16 → byteOf v k = Memory.byte s.ls (quadOf s18.toInt + k)) ∧
    (Computes (.lqr rt s18) s rt fun v => ∀ k, k < 16 →
      byteOf v k = Memory.byte s.ls (quadOf (s.pc.toNat + s18.toInt / 4 * 4) + k))

/-- stqd, stqx, stqa, stqr: the sixteen bytes of rc at the aligned quadword, no other byte, and the quadword joins
Dirty. (41_load_store.md section Stores (R120, R125 to R128); 20_memory.md rules R51, R53, R54, R62) The address is
computed as the meaning computes it, and equals the effective address of R120 modulo LS_SIZE, down to a multiple of 16
(decisions D2, D4, D5; logs 9, 14). -/
def Obligations.StoreQuadword : Prop :=
  ∀ (rc ra rb : Reg) (s14 : BitVec 14) (s18 : BitVec 18) (s : State),
    (Stores (.stqd rc s14 ra) s (lsa (s.eaD s14 ra)) (s.reg rc) ∧
      lsa (s.eaD s14 ra) = quadOf ((wordOf (s.reg ra) 0).toNat + s14.toInt / 16 * 16)) ∧
    (Stores (.stqx rc ra rb) s (lsa (s.eaX ra rb)) (s.reg rc) ∧
      lsa (s.eaX ra rb) = quadOf ((wordOf (s.reg ra) 0).toNat + (wordOf (s.reg rb) 0).toNat)) ∧
    (Stores (.stqa rc s18) s (lsa (off18 s18)) (s.reg rc) ∧ lsa (off18 s18) = quadOf s18.toInt) ∧
    (Stores (.stqr rc s18) s (lsa (s.eaRel s18)) (s.reg rc) ∧
      lsa (s.eaRel s18) = quadOf (s.pc.toNat + s18.toInt / 4 * 4))

/-- A load from the quadword just stored to returns the stored register; a load from another quadword what it returned
before. (20_memory.md rules R51, R52, R53 and R59 (D10)) That a load sees the latest earlier store is decision D10 of
the spec. -/
def Obligations.LoadAfterStore : Prop :=
  ∀ (rc ra rt rb : Reg) (d e : BitVec 14) (s : State),
    ∃ t u w, exec (.stqd rc d ra) s = .next t ∧ exec (.lqd rt e rb) t = .next u ∧ exec (.lqd rt e rb) s = .next w ∧
      (lsa (s.eaD d ra) = lsa (s.eaD e rb) → u.reg rt = s.reg rc) ∧
      (lsa (s.eaD d ra) ≠ lsa (s.eaD e rb) → u.reg rt = w.reg rt)

/-- cbd, cbx, chd, chx, cwd, cwx, cdd, cdx: the sixteen control bytes for every address and every size.
(41_load_store.md section Generate controls for insertion (R129 to R137, general knowledge adopted in R129)) The mask
values are the spec's adopted general knowledge (log 17). -/
def Obligations.InsertionControls : Prop :=
  ∀ (rt ra rb : Reg) (u7 : BitVec 7) (s : State),
    (Computes (.cbd rt u7 ra) s rt fun v => IsInsertion 1 3 ((wordOf (s.reg ra) 0).toNat + u7.toNat) v) ∧
    (Computes (.cbx rt ra rb) s rt fun v => IsInsertion 1 3 ((wordOf (s.reg ra) 0).toNat + (wordOf (s.reg rb)
      0).toNat) v) ∧
    (Computes (.chd rt u7 ra) s rt fun v => IsInsertion 2 2 ((wordOf (s.reg ra) 0).toNat + u7.toNat) v) ∧
    (Computes (.chx rt ra rb) s rt fun v => IsInsertion 2 2 ((wordOf (s.reg ra) 0).toNat + (wordOf (s.reg rb)
      0).toNat) v) ∧
    (Computes (.cwd rt u7 ra) s rt fun v => IsInsertion 4 0 ((wordOf (s.reg ra) 0).toNat + u7.toNat) v) ∧
    (Computes (.cwx rt ra rb) s rt fun v => IsInsertion 4 0 ((wordOf (s.reg ra) 0).toNat + (wordOf (s.reg rb)
      0).toNat) v) ∧
    (Computes (.cdd rt u7 ra) s rt fun v => IsInsertion 8 0 ((wordOf (s.reg ra) 0).toNat + u7.toNat) v) ∧
    (Computes (.cdx rt ra rb) s rt fun v => IsInsertion 8 0 ((wordOf (s.reg ra) 0).toNat + (wordOf (s.reg rb)
      0).toNat) v)

/-- A control made by cbd ... cdx makes shufb replace exactly the addressed field of a quadword by the scalar of
another. (41_load_store.md rule R129 (alignment and values: general knowledge adopted there); 44_logical.md rule R220
(selector encoding: general knowledge adopted there)) That a mask can be used so is what the source requires (R129);
the alignment of the field and the values of the controls and of the selectors are the spec's adopted general
knowledge in R129 and R220 (log 17). -/
def Obligations.InsertionByShuffle : Prop :=
  ∀ (rt ra rb : Reg) (u7 : BitVec 7) (s : State),
    InsertsScalar (.cbd rt u7 ra) s rt 1 3 ((wordOf (s.reg ra) 0).toNat + u7.toNat) ∧
    InsertsScalar (.cbx rt ra rb) s rt 1 3 ((wordOf (s.reg ra) 0).toNat + (wordOf (s.reg rb) 0).toNat) ∧
    InsertsScalar (.chd rt u7 ra) s rt 2 2 ((wordOf (s.reg ra) 0).toNat + u7.toNat) ∧
    InsertsScalar (.chx rt ra rb) s rt 2 2 ((wordOf (s.reg ra) 0).toNat + (wordOf (s.reg rb) 0).toNat) ∧
    InsertsScalar (.cwd rt u7 ra) s rt 4 0 ((wordOf (s.reg ra) 0).toNat + u7.toNat) ∧
    InsertsScalar (.cwx rt ra rb) s rt 4 0 ((wordOf (s.reg ra) 0).toNat + (wordOf (s.reg rb) 0).toNat) ∧
    InsertsScalar (.cdd rt u7 ra) s rt 8 0 ((wordOf (s.reg ra) 0).toNat + u7.toNat) ∧
    InsertsScalar (.cdx rt ra rb) s rt 8 0 ((wordOf (s.reg ra) 0).toNat + (wordOf (s.reg rb) 0).toNat)

/-- il, ila, ilh, ilhu, iohl: the immediate in every element, extended as its rule says. (42_constant_formation.md
rules R141 to R145) That ilhu leaves zeros in the lower halfwords is the spec's own reading in R144 (general
knowledge): the row states only where u16 goes. -/
def Obligations.ConstantFormation : Prop :=
  ∀ (rt : Reg) (u16 : BitVec 16) (u18 : BitVec 18) (s : State),
    (Computes (.il rt u16) s rt fun v => ∀ k, k < 4 → (wordOf v k).toInt = u16.toInt) ∧
    (Computes (.ila rt u18) s rt fun v => ∀ k, k < 4 → (wordOf v k).toNat = u18.toNat) ∧
    (Computes (.ilh rt u16) s rt fun v => ∀ k, k < 8 → halfOf v k = u16) ∧
    (Computes (.ilhu rt u16) s rt fun v => ∀ k, k < 4 → halfOf v (2 * k) = u16 ∧ halfOf v (2 * k + 1) = 0#16) ∧
    (Computes (.iohl rt u16) s rt fun v => ∀ k, k < 4 →
      halfOf v (2 * k) = halfOf (s.reg rt) (2 * k) ∧ halfOf v (2 * k + 1) = halfOf (s.reg rt) (2 * k + 1) ||| u16)

/-- fsmbi, fsmb, fsmh, fsm spread bits to elements, gb, gbh, gbb gather them; the most significant bit belongs to
element 0. (42_constant_formation.md rule R146; 43_integer_arithmetic.md rules R179 to R184 (order and zeros: general
knowledge there)) The order of the bits and the zeros are the adopted general knowledge of the spec (log 17). -/
def Obligations.MasksAndGatheredBits : Prop :=
  ∀ (rt ra : Reg) (u16 : BitVec 16) (s : State),
    (Computes (.fsmbi rt u16) s rt fun v => ∀ k, k < 16 → byteOf v k =
      if u16.getLsbD (15 - k) then 0xFF#8 else 0x00#8) ∧
    (Computes (.fsmb rt ra) s rt fun v => ∀ k, k < 16 →
      byteOf v k = if (wordOf (s.reg ra) 0).getLsbD (15 - k) then 0xFF#8 else 0x00#8) ∧
    (Computes (.fsmh rt ra) s rt fun v => ∀ k, k < 8 →
      halfOf v k = if (wordOf (s.reg ra) 0).getLsbD (7 - k) then 0xFFFF#16 else 0x0000#16) ∧
    (Computes (.fsm rt ra) s rt fun v => ∀ k, k < 4 →
      wordOf v k = if (wordOf (s.reg ra) 0).getLsbD (3 - k) then 0xFFFFFFFF#32 else 0x00000000#32) ∧
    (Computes (.gb rt ra) s rt fun v => (∀ k, 0 < k → k < 4 → wordOf v k = 0#32) ∧
      ∀ i, (wordOf v 0).getLsbD i = (decide (i < 4) && (wordOf (s.reg ra) (3 - i)).getLsbD 0)) ∧
    (Computes (.gbh rt ra) s rt fun v => (∀ k, 0 < k → k < 4 → wordOf v k = 0#32) ∧
      ∀ i, (wordOf v 0).getLsbD i = (decide (i < 8) && (halfOf (s.reg ra) (7 - i)).getLsbD 0)) ∧
    (Computes (.gbb rt ra) s rt fun v => (∀ k, 0 < k → k < 4 → wordOf v k = 0#32) ∧
      ∀ i, (wordOf v 0).getLsbD i = (decide (i < 16) && (byteOf (s.reg ra) (15 - i)).getLsbD 0))

/-- a, ah, ai, ahi, sf, sfh, sfi, sfhi: exact sums and differences of the signed elements, narrowed to the element.
(43_integer_arithmetic.md rules R151 to R154 and R158 to R161; 90_conflicts.md C3) That sfh works on halfwords is the
resolution of conflict C3 in R159, a decision of the spec: the row says word elements. -/
def Obligations.AddSubtract : Prop :=
  ∀ (rt ra rb : Reg) (s10 : BitVec 10) (s : State),
    (Computes (.a rt ra rb) s rt fun v => ∀ k, k < 4 →
      wordOf v k = BitVec.ofInt 32 ((wordOf (s.reg ra) k).toInt + (wordOf (s.reg rb) k).toInt)) ∧
    (Computes (.ah rt ra rb) s rt fun v => ∀ k, k < 8 →
      halfOf v k = BitVec.ofInt 16 ((halfOf (s.reg ra) k).toInt + (halfOf (s.reg rb) k).toInt)) ∧
    (Computes (.ai rt ra s10) s rt fun v => ∀ k, k < 4 →
      wordOf v k = BitVec.ofInt 32 ((wordOf (s.reg ra) k).toInt + s10.toInt)) ∧
    (Computes (.ahi rt ra s10) s rt fun v => ∀ k, k < 8 →
      halfOf v k = BitVec.ofInt 16 ((halfOf (s.reg ra) k).toInt + s10.toInt)) ∧
    (Computes (.sf rt ra rb) s rt fun v => ∀ k, k < 4 →
      wordOf v k = BitVec.ofInt 32 ((wordOf (s.reg rb) k).toInt - (wordOf (s.reg ra) k).toInt)) ∧
    (Computes (.sfh rt ra rb) s rt fun v => ∀ k, k < 8 →
      halfOf v k = BitVec.ofInt 16 ((halfOf (s.reg rb) k).toInt - (halfOf (s.reg ra) k).toInt)) ∧
    (Computes (.sfi rt ra s10) s rt fun v => ∀ k, k < 4 →
      wordOf v k = BitVec.ofInt 32 (s10.toInt - (wordOf (s.reg ra) k).toInt)) ∧
    (Computes (.sfhi rt ra s10) s rt fun v => ∀ k, k < 8 →
      halfOf v k = BitVec.ofInt 16 (s10.toInt - (halfOf (s.reg ra) k).toInt))

/-- addx, cg, cgx, sfx, bg, bgx: sums and differences with a bit in, carries out, and the absence of a borrow.
(43_integer_arithmetic.md rules R155 to R157 and R162 to R164) That bgx reads its words as unsigned is an inference of
the spec (R164, derived from R163). -/
def Obligations.CarryAndBorrow : Prop :=
  ∀ (rt ra rb : Reg) (s : State),
    (Computes (.addx rt ra rb) s rt fun v => ∀ k, k < 4 → (wordOf v k).toNat =
      ((wordOf (s.reg ra) k).toNat + (wordOf (s.reg rb) k).toNat + (wordOf (s.reg rt) k).toNat % 2) % 2 ^ 32) ∧
    (Computes (.cg rt ra rb) s rt fun v => ∀ k, k < 4 →
      (wordOf v k).toNat = ((wordOf (s.reg ra) k).toNat + (wordOf (s.reg rb) k).toNat) / 2 ^ 32) ∧
    (Computes (.cgx rt ra rb) s rt fun v => ∀ k, k < 4 → (wordOf v k).toNat =
      ((wordOf (s.reg ra) k).toNat + (wordOf (s.reg rb) k).toNat + (wordOf (s.reg rt) k).toNat % 2) / 2 ^ 32) ∧
    (Computes (.sfx rt ra rb) s rt fun v => ∀ k, k < 4 → ((wordOf v k).toNat : Int) =
      ((wordOf (s.reg rb) k).toNat - (wordOf (s.reg ra) k).toNat - (1 - (wordOf (s.reg rt) k).toNat % 2) : Int) %
        2 ^ 32) ∧
    (Computes (.bg rt ra rb) s rt fun v => ∀ k, k < 4 →
      (wordOf v k).toNat = if (wordOf (s.reg ra) k).toNat > (wordOf (s.reg rb) k).toNat then 0 else 1) ∧
    (Computes (.bgx rt ra rb) s rt fun v => ∀ k, k < 4 → (wordOf v k).toNat =
      if ((wordOf (s.reg rb) k).toNat - (wordOf (s.reg ra) k).toNat - (1 - (wordOf (s.reg rt) k).toNat % 2) :
        Int) < 0
      then 0 else 1)

/-- mpy, mpya, mpyhh, mpyhha: exact signed products of the low or high halfwords, added modulo 2^32 where there is an
addend. (R166; R170; R173; R174) -/
def Obligations.SignedMultiply : Prop :=
  ∀ (rt ra rb rc : Reg) (s : State),
    (Computes (.mpy rt ra rb) s rt fun v => ∀ k, k < 4 →
      (wordOf v k).toInt = (halfOf (s.reg ra) (2 * k + 1)).toInt * (halfOf (s.reg rb) (2 * k + 1)).toInt) ∧
    (Computes (.mpya rt ra rb rc) s rt fun v => ∀ k, k < 4 → wordOf v k = BitVec.ofInt 32
      ((halfOf (s.reg ra) (2 * k + 1)).toInt * (halfOf (s.reg rb) (2 * k + 1)).toInt + (wordOf (s.reg rc)
        k).toInt)) ∧
    (Computes (.mpyhh rt ra rb) s rt fun v => ∀ k, k < 4 →
      (wordOf v k).toInt = (halfOf (s.reg ra) (2 * k)).toInt * (halfOf (s.reg rb) (2 * k)).toInt) ∧
    (Computes (.mpyhha rt ra rb) s rt fun v => ∀ k, k < 4 → wordOf v k = BitVec.ofInt 32
      ((halfOf (s.reg ra) (2 * k)).toInt * (halfOf (s.reg rb) (2 * k)).toInt + (wordOf (s.reg rt) k).toInt))

/-- mpyu, mpyui, mpyhhu, mpyhhau: exact unsigned products of halfwords, and the sum with the old word modulo 2^32.
(43_integer_arithmetic.md rules R167, R169 (extension to 16 bits: general knowledge there), R175, R176) That mpyui
extends the sign of s10 to 16 bits is the spec's adopted general knowledge in R169 (log 16). -/
def Obligations.UnsignedMultiply : Prop :=
  ∀ (rt ra rb : Reg) (s10 : BitVec 10) (s : State),
    (Computes (.mpyu rt ra rb) s rt fun v => ∀ k, k < 4 →
      (wordOf v k).toNat = (halfOf (s.reg ra) (2 * k + 1)).toNat * (halfOf (s.reg rb) (2 * k + 1)).toNat) ∧
    (Computes (.mpyui rt ra s10) s rt fun v => ∀ k, k < 4 →
      (wordOf v k).toNat = (halfOf (s.reg ra) (2 * k + 1)).toNat * (BitVec.ofInt 16 s10.toInt).toNat) ∧
    (Computes (.mpyhhu rt ra rb) s rt fun v => ∀ k, k < 4 →
      (wordOf v k).toNat = (halfOf (s.reg ra) (2 * k)).toNat * (halfOf (s.reg rb) (2 * k)).toNat) ∧
    (Computes (.mpyhhau rt ra rb) s rt fun v => ∀ k, k < 4 → (wordOf v k).toNat =
      ((halfOf (s.reg ra) (2 * k)).toNat * (halfOf (s.reg rb) (2 * k)).toNat + (wordOf (s.reg rt) k).toNat) % 2 ^
        32)

/-- mpyi, mpyh, mpys: product with an immediate, low half of a cross product moved up, high half of a product moved
down. (43_integer_arithmetic.md rules R168, R171, R172 (general knowledge and D24 there); 93_implementation_defined.md
U6, U19) That mpyi is signed and mpys sign-extends is the spec's adopted general knowledge (log 16), MPYS_HALF stays
open (log 15). -/
def Obligations.MixedMultiply : Prop :=
  ∀ (rt ra rb : Reg) (s10 : BitVec 10) (s : State),
    (Computes (.mpyi rt ra s10) s rt fun v => ∀ k, k < 4 →
      (wordOf v k).toInt = (halfOf (s.reg ra) (2 * k + 1)).toInt * s10.toInt) ∧
    (Computes (.mpyh rt ra rb) s rt fun v => ∀ k, k < 4 → (wordOf v k).toNat =
      (halfOf (s.reg ra) (2 * k)).toNat * (halfOf (s.reg rb) (2 * k + 1)).toNat % 2 ^ 16 * 2 ^ 16) ∧
    (Computes (.mpys rt ra rb) s rt fun v => ∀ k, k < 4 →
      (Config.mpysHalf = .high → (wordOf v k).toInt =
        (halfOf (s.reg ra) (2 * k)).toInt * (halfOf (s.reg rb) (2 * k)).toInt / 2 ^ 16) ∧
      (Config.mpysHalf = .low → (wordOf v k).toInt =
        (halfOf (s.reg ra) (2 * k + 1)).toInt * (halfOf (s.reg rb) (2 * k + 1)).toInt / 2 ^ 16))

/-- clz counts the zero bits above the first one bit of each word, 32 for none; cntb counts the one bits of each byte.
(43_integer_arithmetic.md rules R177 (the count 32 of a zero word: general knowledge there) and R178) The count for a
zero word is the spec's adopted general knowledge (log 17). -/
def Obligations.CountBits : Prop :=
  ∀ (rt ra : Reg) (s : State),
    (Computes (.clz rt ra) s rt fun v => ∀ k, k < 4 → (wordOf v k).toNat ≤ 32 ∧
      (∀ i, i < (wordOf v k).toNat → (wordOf (s.reg ra) k).getLsbD (31 - i) = false) ∧
      ((wordOf v k).toNat < 32 → (wordOf (s.reg ra) k).getLsbD (31 - (wordOf v k).toNat) = true)) ∧
    (Computes (.cntb rt ra) s rt fun v => ∀ k, k < 16 →
      (byteOf v k).toNat = (List.range 8).countP fun i => (byteOf (s.reg ra) k).getLsbD i)

/-- avgb, absdb, sumb: rounded averages, absolute differences and sums of unsigned bytes. (43_integer_arithmetic.md
rules R185 to R187 (bytes unsigned: general knowledge there)) That the bytes are unsigned is the spec's adopted
general knowledge (log 17). -/
def Obligations.ByteArithmetic : Prop :=
  ∀ (rt ra rb : Reg) (s : State),
    (Computes (.avgb rt ra rb) s rt fun v => ∀ k, k < 16 →
      (byteOf v k).toNat = ((byteOf (s.reg ra) k).toNat + (byteOf (s.reg rb) k).toNat + 1) / 2) ∧
    (Computes (.absdb rt ra rb) s rt fun v => ∀ k, k < 16 →
      (byteOf v k).toNat = ((byteOf (s.reg rb) k).toNat - (byteOf (s.reg ra) k).toNat : Int).natAbs) ∧
    (Computes (.sumb rt ra rb) s rt fun v => ∀ k, k < 4 →
      (halfOf v (2 * k)).toNat = (byteOf (s.reg rb) (4 * k)).toNat + (byteOf (s.reg rb) (4 * k + 1)).toNat +
        (byteOf (s.reg rb) (4 * k + 2)).toNat + (byteOf (s.reg rb) (4 * k + 3)).toNat ∧
      (halfOf v (2 * k + 1)).toNat = (byteOf (s.reg ra) (4 * k)).toNat + (byteOf (s.reg ra) (4 * k + 1)).toNat +
        (byteOf (s.reg ra) (4 * k + 2)).toNat + (byteOf (s.reg ra) (4 * k + 3)).toNat)

/-- xsbh, xshw, xswd: each element of rt has the signed value of the lower half of the element of ra. (R188; R189;
R190) -/
def Obligations.SignExtension : Prop :=
  ∀ (rt ra : Reg) (s : State),
    (Computes (.xsbh rt ra) s rt fun v => ∀ k, k < 8 → (halfOf v k).toInt = (byteOf (s.reg ra) (2 * k + 1)).toInt) ∧
    (Computes (.xshw rt ra) s rt fun v => ∀ k, k < 4 → (wordOf v k).toInt = (halfOf (s.reg ra) (2 * k + 1)).toInt) ∧
    (Computes (.xswd rt ra) s rt fun v => ∀ k, k < 2 → (dwordOf v k).toInt = (wordOf (s.reg ra) (2 * k + 1)).toInt)

/-- and, andc, or, orc, xor, nand, nor, eqv, selb, orx: the bits of rt from the bits of the sources. (R201; R202;
R206; R207; R211; R212; R216; R217; R218; R219) -/
def Obligations.LogicalOnRegisters : Prop :=
  ∀ (rt ra rb rc : Reg) (s : State),
    (Computes (.and rt ra rb) s rt fun v => ∀ i, i < 128 → v.getLsbD i =
      ((s.reg ra).getLsbD i && (s.reg rb).getLsbD i)) ∧
    (Computes (.andc rt ra rb) s rt fun v => ∀ i, i < 128 → v.getLsbD i =
      ((s.reg ra).getLsbD i && !(s.reg rb).getLsbD i)) ∧
    (Computes (.or rt ra rb) s rt fun v => ∀ i, i < 128 → v.getLsbD i =
      ((s.reg ra).getLsbD i || (s.reg rb).getLsbD i)) ∧
    (Computes (.orc rt ra rb) s rt fun v => ∀ i, i < 128 → v.getLsbD i =
      ((s.reg ra).getLsbD i || !(s.reg rb).getLsbD i)) ∧
    (Computes (.xor rt ra rb) s rt fun v => ∀ i, i < 128 → v.getLsbD i =
      ((s.reg ra).getLsbD i != (s.reg rb).getLsbD i)) ∧
    (Computes (.nand rt ra rb) s rt fun v => ∀ i, i < 128 → v.getLsbD i =
      (!((s.reg ra).getLsbD i && (s.reg rb).getLsbD i))) ∧
    (Computes (.nor rt ra rb) s rt fun v => ∀ i, i < 128 → v.getLsbD i =
      (!((s.reg ra).getLsbD i || (s.reg rb).getLsbD i))) ∧
    (Computes (.eqv rt ra rb) s rt fun v => ∀ i, i < 128 → v.getLsbD i =
      ((s.reg ra).getLsbD i == (s.reg rb).getLsbD i)) ∧
    (Computes (.selb rt ra rb rc) s rt fun v => ∀ i, i < 128 → v.getLsbD i =
      if (s.reg rc).getLsbD i then (s.reg rb).getLsbD i else (s.reg ra).getLsbD i) ∧
    (Computes (.orx rt ra) s rt fun v =>
      (∀ i, (wordOf v 0).getLsbD i = true ↔ ∃ k, k < 4 ∧ (wordOf (s.reg ra) k).getLsbD i = true) ∧
      ∀ k, 0 < k → k < 4 → wordOf v k = 0#32)

/-- andbi ... xori: each element of ra with s10, its eight low bits for bytes and its sign extension for wider
elements. (44_logical.md rules R203 to R205, R208 to R210, R213 to R215; 90_conflicts.md C13) That xorhi extends s10
to halfwords is the resolution of conflict C13 in R214, a decision of the spec. -/
def Obligations.LogicalWithImmediate : Prop :=
  ∀ (rt ra : Reg) (s10 : BitVec 10) (s : State),
    (Computes (.andbi rt ra s10) s rt fun v => ∀ k i, k < 16 → i < 8 →
      (byteOf v k).getLsbD i = ((byteOf (s.reg ra) k).getLsbD i && s10.getLsbD i)) ∧
    (Computes (.andhi rt ra s10) s rt fun v => ∀ k i, k < 8 → i < 16 →
      (halfOf v k).getLsbD i = ((halfOf (s.reg ra) k).getLsbD i && s10.getLsbD (min i 9))) ∧
    (Computes (.andi rt ra s10) s rt fun v => ∀ k i, k < 4 → i < 32 →
      (wordOf v k).getLsbD i = ((wordOf (s.reg ra) k).getLsbD i && s10.getLsbD (min i 9))) ∧
    (Computes (.orbi rt ra s10) s rt fun v => ∀ k i, k < 16 → i < 8 →
      (byteOf v k).getLsbD i = ((byteOf (s.reg ra) k).getLsbD i || s10.getLsbD i)) ∧
    (Computes (.orhi rt ra s10) s rt fun v => ∀ k i, k < 8 → i < 16 →
      (halfOf v k).getLsbD i = ((halfOf (s.reg ra) k).getLsbD i || s10.getLsbD (min i 9))) ∧
    (Computes (.ori rt ra s10) s rt fun v => ∀ k i, k < 4 → i < 32 →
      (wordOf v k).getLsbD i = ((wordOf (s.reg ra) k).getLsbD i || s10.getLsbD (min i 9))) ∧
    (Computes (.xorbi rt ra s10) s rt fun v => ∀ k i, k < 16 → i < 8 →
      (byteOf v k).getLsbD i = ((byteOf (s.reg ra) k).getLsbD i != s10.getLsbD i)) ∧
    (Computes (.xorhi rt ra s10) s rt fun v => ∀ k i, k < 8 → i < 16 →
      (halfOf v k).getLsbD i = ((halfOf (s.reg ra) k).getLsbD i != s10.getLsbD (min i 9))) ∧
    (Computes (.xori rt ra s10) s rt fun v => ∀ k i, k < 4 → i < 32 →
      (wordOf v k).getLsbD i = ((wordOf (s.reg ra) k).getLsbD i != s10.getLsbD (min i 9)))

/-- shufb: each byte of rt is the byte of ra or rb, or the constant, that the selector byte of rc names.
(44_logical.md rule R220 (selector encoding: general knowledge adopted there)) The selector encoding is the spec's
adopted general knowledge (log 17). -/
def Obligations.ShuffleBytes : Prop :=
  ∀ (rt ra rb rc : Reg) (s : State), Computes (.shufb rt ra rb rc) s rt fun v => ∀ k, k < 16 →
    byteOf v k =
      if (byteOf (s.reg rc) k).toNat < 0x80 then
        if (byteOf (s.reg rc) k).toNat % 32 < 16 then byteOf (s.reg ra) ((byteOf (s.reg rc) k).toNat % 32)
        else byteOf (s.reg rb) ((byteOf (s.reg rc) k).toNat % 32 - 16)
      else if (byteOf (s.reg rc) k).toNat < 0xC0 then 0x00#8
      else if (byteOf (s.reg rc) k).toNat < 0xE0 then 0xFF#8
      else 0x80#8

/-- shl, shlh and relatives, shlq and relatives: elements or the whole register times two to the count, modulo the
width. (45_shift_rotate.md section 2 (R230 to R239; counts of the width and more: D27)) For every state and all
operands: each word (6 bits of count from the same word of rb or the immediate), each halfword (5 bits) or the whole
register (3 bits of word element 0 of rb or of the immediate; 8 times 5 bits; 8 times bits 7 to 3) is multiplied by 2
to the count modulo its width; so a count of the width or more gives zero (decision D27 of the spec, log 18). An
immediate with bits above the field that counts has no assembly spelling (log 12). -/
def Obligations.ShiftLeft : Prop :=
  ∀ (rt ra rb : Reg) (u : BitVec 7) (s : State),
    (Computes (.shl rt ra rb) s rt fun v => ∀ k, k < 4 → (wordOf v k).toNat =
      (wordOf (s.reg ra) k).toNat * 2 ^ ((wordOf (s.reg rb) k).toNat % 64) % 2 ^ 32) ∧
    (Computes (.shlh rt ra rb) s rt fun v => ∀ k, k < 8 → (halfOf v k).toNat =
      (halfOf (s.reg ra) k).toNat * 2 ^ ((halfOf (s.reg rb) k).toNat % 32) % 2 ^ 16) ∧
    (Computes (.shli rt ra u) s rt fun v => ∀ k, k < 4 → (wordOf v k).toNat =
      (wordOf (s.reg ra) k).toNat * 2 ^ (u.toNat % 64) % 2 ^ 32) ∧
    (Computes (.shlhi rt ra u) s rt fun v => ∀ k, k < 8 → (halfOf v k).toNat =
      (halfOf (s.reg ra) k).toNat * 2 ^ (u.toNat % 32) % 2 ^ 16) ∧
    (Computes (.shlqbi rt ra rb) s rt fun v => v.toNat =
      (s.reg ra).toNat * 2 ^ ((wordOf (s.reg rb) 0).toNat % 8) % 2 ^ 128) ∧
    (Computes (.shlqbii rt ra u) s rt fun v => v.toNat =
      (s.reg ra).toNat * 2 ^ (u.toNat % 8) % 2 ^ 128) ∧
    (Computes (.shlqby rt ra rb) s rt fun v => v.toNat =
      (s.reg ra).toNat * 2 ^ (8 * ((wordOf (s.reg rb) 0).toNat % 32)) % 2 ^ 128) ∧
    (Computes (.shlqbyi rt ra u) s rt fun v => v.toNat =
      (s.reg ra).toNat * 2 ^ (8 * (u.toNat % 32)) % 2 ^ 128) ∧
    (Computes (.shlqbybi rt ra rb) s rt fun v => v.toNat =
      (s.reg ra).toNat * 2 ^ (8 * ((wordOf (s.reg rb) 0).toNat / 8 % 32)) % 2 ^ 128)

/-- rot, roth, roti, rothi: bit i of each element moves to place i plus the count, modulo the width. (R240; R241;
R242; R243) -/
def Obligations.RotateElements : Prop :=
  ∀ (rt ra rb : Reg) (s7 : BitVec 7) (s : State),
    (Computes (.rot rt ra rb) s rt fun v => ∀ k i, k < 4 → i < 32 →
      (wordOf v k).getLsbD ((i + (wordOf (s.reg rb) k).toNat) % 32) = (wordOf (s.reg ra) k).getLsbD i) ∧
    (Computes (.roth rt ra rb) s rt fun v => ∀ k i, k < 8 → i < 16 →
      (halfOf v k).getLsbD ((i + (halfOf (s.reg rb) k).toNat) % 16) = (halfOf (s.reg ra) k).getLsbD i) ∧
    (Computes (.roti rt ra s7) s rt fun v => ∀ k i, k < 4 → i < 32 →
      (wordOf v k).getLsbD ((i + s7.toNat) % 32) = (wordOf (s.reg ra) k).getLsbD i) ∧
    (Computes (.rothi rt ra s7) s rt fun v => ∀ k i, k < 8 → i < 16 →
      (halfOf v k).getLsbD ((i + s7.toNat) % 16) = (halfOf (s.reg ra) k).getLsbD i)

/-- rotqbi, rotqbii, rotqby, rotqbybi, rotqbyi: bit i of the register moves to place i plus the count, modulo 128.
(45_shift_rotate.md rules R244 to R248; 92_eei_decisions.md D3) That bits 25 to 28 of the row of rotqbybi are bits 6
to 3 counted from the least significant is decision D3 (log 9); that rotqbii with an immediate of 8 or more, which has
no assembly spelling, uses its three low bits is log 12. -/
def Obligations.RotateQuadword : Prop :=
  ∀ (rt ra rb : Reg) (u s7 : BitVec 7) (s : State),
    (Computes (.rotqbi rt ra rb) s rt fun v => ∀ i, i < 128 →
      v.getLsbD ((i + (wordOf (s.reg rb) 0).toNat % 8) % 128) = (s.reg ra).getLsbD i) ∧
    (Computes (.rotqbii rt ra u) s rt fun v => ∀ i, i < 128 →
      v.getLsbD ((i + u.toNat % 8) % 128) = (s.reg ra).getLsbD i) ∧
    (Computes (.rotqby rt ra rb) s rt fun v => ∀ i, i < 128 →
      v.getLsbD ((i + 8 * ((wordOf (s.reg rb) 0).toNat % 16)) % 128) = (s.reg ra).getLsbD i) ∧
    (Computes (.rotqbybi rt ra rb) s rt fun v => ∀ i, i < 128 →
      v.getLsbD ((i + 8 * ((wordOf (s.reg rb) 0).toNat / 8 % 16)) % 128) = (s.reg ra).getLsbD i) ∧
    (Computes (.rotqbyi rt ra s7) s rt fun v => ∀ i, i < 128 →
      v.getLsbD ((i + 8 * (s7.toNat % 16)) % 128) = (s.reg ra).getLsbD i)

/-- rotm, rotma, rotqm and relatives: elements or the whole register divided, rounding down, by two to the negated
count. (45_shift_rotate.md sections on rotate and mask (R230, R249 to R261; over-wide counts: D27; C5; five bits of s6
and three of s3: general knowledge in R252 and R258); 92_eei_decisions.md D3) So an over-wide n leaves zero or copies
of the sign (decision D27, log 18). That the immediate forms use five bits of s6 (R252, R256, R261) and three of s3
(R258) is the spec's adopted general knowledge (G11; log 37), and that rotmahi negates its count is the resolution of
conflict C5, a decision of the spec. The numbering of the count bits is decision D3 (log 9). -/
def Obligations.RightShift : Prop :=
  ∀ (rt ra rb : Reg) (c : BitVec 7) (s : State),
    (Computes (.rotm rt ra rb) s rt fun v => ∀ k, k < 4 →
      (wordOf v k).toNat = (wordOf (s.reg ra) k).toNat / 2 ^ ((64 - (wordOf (s.reg rb) k).toNat % 64) % 64)) ∧
    (Computes (.rotmi rt ra c) s rt fun v => ∀ k, k < 4 →
      (wordOf v k).toNat = (wordOf (s.reg ra) k).toNat / 2 ^ ((64 - c.toNat % 64) % 64)) ∧
    (Computes (.rothm rt ra rb) s rt fun v => ∀ k, k < 8 →
      (halfOf v k).toNat = (halfOf (s.reg ra) k).toNat / 2 ^ ((32 - (halfOf (s.reg rb) k).toNat % 32) % 32)) ∧
    (Computes (.rothmi rt ra c) s rt fun v => ∀ k, k < 8 →
      (halfOf v k).toNat = (halfOf (s.reg ra) k).toNat / 2 ^ ((32 - c.toNat % 32) % 32)) ∧
    (Computes (.rotma rt ra rb) s rt fun v => ∀ k, k < 4 →
      (wordOf v k).toInt = (wordOf (s.reg ra) k).toInt / 2 ^ ((64 - (wordOf (s.reg rb) k).toNat % 64) % 64)) ∧
    (Computes (.rotmai rt ra c) s rt fun v => ∀ k, k < 4 →
      (wordOf v k).toInt = (wordOf (s.reg ra) k).toInt / 2 ^ ((64 - c.toNat % 64) % 64)) ∧
    (Computes (.rotmah rt ra rb) s rt fun v => ∀ k, k < 8 →
      (halfOf v k).toInt = (halfOf (s.reg ra) k).toInt / 2 ^ ((32 - (halfOf (s.reg rb) k).toNat % 32) % 32)) ∧
    (Computes (.rotmahi rt ra c) s rt fun v => ∀ k, k < 8 →
      (halfOf v k).toInt = (halfOf (s.reg ra) k).toInt / 2 ^ ((32 - c.toNat % 32) % 32)) ∧
    (Computes (.rotqmbi rt ra rb) s rt fun v => v.toNat =
      (s.reg ra).toNat / 2 ^ (((8 - (wordOf (s.reg rb) 0).toNat % 8) % 8))) ∧
    (Computes (.rotqmbii rt ra c) s rt fun v => v.toNat = (s.reg ra).toNat / 2 ^ (((8 - c.toNat % 8) % 8))) ∧
    (Computes (.rotqmby rt ra rb) s rt fun v => v.toNat =
      (s.reg ra).toNat / 2 ^ (8 * ((32 - (wordOf (s.reg rb) 0).toNat % 32) % 32))) ∧
    (Computes (.rotqmbyi rt ra c) s rt fun v => v.toNat = (s.reg ra).toNat / 2 ^ (8 * ((32 - c.toNat % 32) % 32))) ∧
    (Computes (.rotqmbybi rt ra rb) s rt fun v => v.toNat =
      (s.reg ra).toNat / 2 ^ (8 * ((32 - ((wordOf (s.reg rb) 0).toNat / 8) % 32) % 32)))

/-- ceqb, ceqh, ceq and immediate forms: all ones in each element that is equal, zeros in each that is not. (R271;
R272; R273; R274; R275; R276) -/
def Obligations.CompareEqual : Prop :=
  ∀ (rt ra rb : Reg) (s10 : BitVec 10) (s : State),
    (Computes (.ceqb rt ra rb) s rt fun v => ∀ k, k < 16 →
      byteOf v k = if byteOf (s.reg ra) k = byteOf (s.reg rb) k then 0xFF#8 else 0x00#8) ∧
    (Computes (.ceqh rt ra rb) s rt fun v => ∀ k, k < 8 →
      halfOf v k = if halfOf (s.reg ra) k = halfOf (s.reg rb) k then 0xFFFF#16 else 0x0000#16) ∧
    (Computes (.ceq rt ra rb) s rt fun v => ∀ k, k < 4 →
      wordOf v k = if wordOf (s.reg ra) k = wordOf (s.reg rb) k then 0xFFFFFFFF#32 else 0x00000000#32) ∧
    (Computes (.ceqbi rt ra s10) s rt fun v => ∀ k, k < 16 →
      byteOf v k = if byteOf (s.reg ra) k = s10.setWidth 8 then 0xFF#8 else 0x00#8) ∧
    (Computes (.ceqhi rt ra s10) s rt fun v => ∀ k, k < 8 →
      halfOf v k = if (halfOf (s.reg ra) k).toInt = s10.toInt then 0xFFFF#16 else 0x0000#16) ∧
    (Computes (.ceqi rt ra s10) s rt fun v => ∀ k, k < 4 →
      wordOf v k = if (wordOf (s.reg ra) k).toInt = s10.toInt then 0xFFFFFFFF#32 else 0x00000000#32)

/-- cgtb, cgth, cgt and immediate forms: all ones in each element that is greater as a signed integer, else zeros.
(46_compare_halt.md rules R270 (b) and R277 to R282; 90_conflicts.md C1 and C2) That the elements are read as signed
is an inference of the spec (R270 (b)): the rows say greater than. That cgtbi compares with the immediate byte and
cgth the halfword of ra are the resolutions of conflicts C1 and C2, decisions of the spec. -/
def Obligations.CompareSigned : Prop :=
  ∀ (rt ra rb : Reg) (s10 : BitVec 10) (s : State),
    (Computes (.cgtb rt ra rb) s rt fun v => ∀ k, k < 16 →
      byteOf v k = if (byteOf (s.reg ra) k).toInt > (byteOf (s.reg rb) k).toInt then 0xFF#8 else 0x00#8) ∧
    (Computes (.cgth rt ra rb) s rt fun v => ∀ k, k < 8 →
      halfOf v k = if (halfOf (s.reg ra) k).toInt > (halfOf (s.reg rb) k).toInt then 0xFFFF#16 else 0x0000#16) ∧
    (Computes (.cgt rt ra rb) s rt fun v => ∀ k, k < 4 →
      wordOf v k =
        if (wordOf (s.reg ra) k).toInt > (wordOf (s.reg rb) k).toInt then 0xFFFFFFFF#32 else 0x00000000#32) ∧
    (Computes (.cgtbi rt ra s10) s rt fun v => ∀ k, k < 16 →
      byteOf v k = if (byteOf (s.reg ra) k).toInt > (s10.setWidth 8).toInt then 0xFF#8 else 0x00#8) ∧
    (Computes (.cgthi rt ra s10) s rt fun v => ∀ k, k < 8 →
      halfOf v k = if (halfOf (s.reg ra) k).toInt > s10.toInt then 0xFFFF#16 else 0x0000#16) ∧
    (Computes (.cgti rt ra s10) s rt fun v => ∀ k, k < 4 →
      wordOf v k = if (wordOf (s.reg ra) k).toInt > s10.toInt then 0xFFFFFFFF#32 else 0x00000000#32)

/-- clgtb, clgth, clgt and immediate forms: all ones in each element that is greater as an unsigned integer, else
zeros. (R283; R284; R285; R286; R287; R288) -/
def Obligations.CompareUnsigned : Prop :=
  ∀ (rt ra rb : Reg) (s10 : BitVec 10) (s : State),
    (Computes (.clgtb rt ra rb) s rt fun v => ∀ k, k < 16 →
      byteOf v k = if (byteOf (s.reg ra) k).toNat > (byteOf (s.reg rb) k).toNat then 0xFF#8 else 0x00#8) ∧
    (Computes (.clgth rt ra rb) s rt fun v => ∀ k, k < 8 →
      halfOf v k = if (halfOf (s.reg ra) k).toNat > (halfOf (s.reg rb) k).toNat then 0xFFFF#16 else 0x0000#16) ∧
    (Computes (.clgt rt ra rb) s rt fun v => ∀ k, k < 4 →
      wordOf v k =
        if (wordOf (s.reg ra) k).toNat > (wordOf (s.reg rb) k).toNat then 0xFFFFFFFF#32 else 0x00000000#32) ∧
    (Computes (.clgtbi rt ra s10) s rt fun v => ∀ k, k < 16 →
      byteOf v k = if (byteOf (s.reg ra) k).toNat > (BitVec.ofInt 8 s10.toInt).toNat then 0xFF#8 else 0x00#8) ∧
    (Computes (.clgthi rt ra s10) s rt fun v => ∀ k, k < 8 →
      halfOf v k =
        if (halfOf (s.reg ra) k).toNat > (BitVec.ofInt 16 s10.toInt).toNat then 0xFFFF#16 else 0x0000#16) ∧
    (Computes (.clgti rt ra s10) s rt fun v => ∀ k, k < 4 →
      wordOf v k =
        if (wordOf (s.reg ra) k).toNat > (BitVec.ofInt 32 s10.toInt).toNat then 0xFFFFFFFF#32 else 0x00000000#32)

/-- heq, heqi, hgt, hgti, hlgt, hlgti: the machine halts where it stands when the words compare so, else goes on.
(46_compare_halt.md rules R289 to R295; 60_exceptions.md rule R412 (D18)) Where pc stands after a halt is decision D18
of the spec (log 32). -/
def Obligations.Halts : Prop :=
  ∀ (rt ra rb : Reg) (s10 : BitVec 10) (s : State),
    HaltsIf (.heq rt ra rb) s (wordOf (s.reg ra) 0 = wordOf (s.reg rb) 0) ∧
    HaltsIf (.heqi rt ra s10) s ((wordOf (s.reg ra) 0).toInt = s10.toInt) ∧
    HaltsIf (.hgt rt ra rb) s ((wordOf (s.reg ra) 0).toInt > (wordOf (s.reg rb) 0).toInt) ∧
    HaltsIf (.hgti rt ra s10) s ((wordOf (s.reg ra) 0).toInt > s10.toInt) ∧
    HaltsIf (.hlgt rt ra rb) s ((wordOf (s.reg ra) 0).toNat > (wordOf (s.reg rb) 0).toNat) ∧
    HaltsIf (.hlgti rt ra s10) s ((wordOf (s.reg ra) 0).toNat > (BitVec.ofInt 32 s10.toInt).toNat)

/-- br, bra, bi, bid, bie, brsl, brasl, bisl, bisld, bisle: pc at the target, IE by the suffix, the return address in
rt. (47_branch_hint.md rules R300, R301, R302 to R311 (reduction of targets: D6)) The reduction modulo LS_SIZE is
decision D6 of the spec (log 14). -/
def Obligations.UnconditionalBranches : Prop :=
  ∀ (rt ra : Reg) (s18 : BitVec 18) (s : State),
    Goes (.br s18) s (relativePc s s18) s.ie ∧ Goes (.bra s18) s (pcOf s18.toInt) s.ie ∧
      Goes (.bi ra) s (indirectPc s ra) s.ie ∧
    Links (.brsl rt s18) s rt (relativePc s s18) s.ie ∧ Links (.brasl rt s18) s rt (pcOf s18.toInt) s.ie ∧
    Links (.bisl rt ra) s rt (indirectPc s ra) s.ie ∧
    Goes (.bid ra) s (indirectPc s ra) false ∧ Goes (.bie ra) s (indirectPc s ra) true ∧
    Links (.bisld rt ra) s rt (indirectPc s ra) false ∧ Links (.bisle rt ra) s rt (indirectPc s ra) true

/-- iret, iretd, irete: pc from SRR0, and IE unchanged, 0 or 1; after an interrupt entry irete restores pc and IE.
(47_branch_hint.md rules R315 to R317 (reduction of SRR0: D6); 60_exceptions.md rules R416 (general knowledge adopted
there, D17) and R419) The reduction of SRR0 to an instruction address is decision D6 of the spec (log 14); the
interrupt entry of the last clause is its adopted general knowledge (R416; log 30). -/
def Obligations.InterruptReturns : Prop :=
  ∀ (ra : Reg) (s : State),
    Goes (.iret ra) s (pcOf s.srr0.toNat) s.ie ∧ Goes (.iretd ra) s (pcOf s.srr0.toNat) false ∧
    Goes (.irete ra) s (pcOf s.srr0.toNat) true ∧
    (IsPc s.pc → s.ie = true → ∃ t, exec (.irete ra) s.takeInterrupt = .next t ∧ t.pc = s.pc ∧ t.ie = s.ie ∧
      SameRegs s t)

/-- bisled, bisledd, bislede: link register in both outcomes, branch and IE only when the count of channel 0 is
nonzero. (47_branch_hint.md rules R312 to R314 (reduction of targets: D6); 49_control_channel.md rule R401) -/
def Obligations.BranchOnExternalData : Prop :=
  ∀ (rt ra : Reg) (s : State),
    (s.chCount 0#7 = 0#32 → Links (.bisled rt ra) s rt (nextPc s) s.ie ∧
      Links (.bisledd rt ra) s rt (nextPc s) s.ie ∧
      Links (.bislede rt ra) s rt (nextPc s) s.ie) ∧
    (s.chCount 0#7 ≠ 0#32 → Links (.bisled rt ra) s rt (indirectPc s ra) s.ie ∧
      Links (.bisledd rt ra) s rt (indirectPc s ra) false ∧
      Links (.bislede rt ra) s rt (indirectPc s ra) true)

/-- brz, brnz, brhz, brhnz: pc + s18 when word element 0 or halfword element 1 of rc is (not) zero, else the next
instruction. (47_branch_hint.md rules R300, R318 to R321 (reduction of targets: D6)) Nothing else changes (D6, log
14). -/
def Obligations.ConditionalRelativeBranches : Prop :=
  ∀ (rc : Reg) (s18 : BitVec 18) (s : State),
    GoesIf (.brz rc s18) s (wordOf (s.reg rc) 0 = 0#32) (relativePc s s18) s.ie ∧
      GoesIf (.brnz rc s18) s (¬ wordOf (s.reg rc) 0 = 0#32) (relativePc s s18) s.ie ∧
    GoesIf (.brhz rc s18) s (halfOf (s.reg rc) 1 = 0#16) (relativePc s s18) s.ie ∧
      GoesIf (.brhnz rc s18) s (¬ halfOf (s.reg rc) 1 = 0#16) (relativePc s s18) s.ie

/-- biz ... bihnze: the target in ra when the condition on rc holds, with IE written by the suffix, else on with IE
unchanged. (47_branch_hint.md rules R301, R322 to R333 (reduction of targets: D6)) Nothing else changes (D6, log 14).
-/
def Obligations.ConditionalIndirectBranches : Prop :=
  ∀ (rc ra : Reg) (s : State),
    GoesIf (.biz rc ra) s (wordOf (s.reg rc) 0 = 0#32) (indirectPc s ra) s.ie ∧
    GoesIf (.bizd rc ra) s (wordOf (s.reg rc) 0 = 0#32) (indirectPc s ra) false ∧
    GoesIf (.bize rc ra) s (wordOf (s.reg rc) 0 = 0#32) (indirectPc s ra) true ∧
    GoesIf (.binz rc ra) s (¬ wordOf (s.reg rc) 0 = 0#32) (indirectPc s ra) s.ie ∧
    GoesIf (.binzd rc ra) s (¬ wordOf (s.reg rc) 0 = 0#32) (indirectPc s ra) false ∧
    GoesIf (.binze rc ra) s (¬ wordOf (s.reg rc) 0 = 0#32) (indirectPc s ra) true ∧
    GoesIf (.bihz rc ra) s (halfOf (s.reg rc) 1 = 0#16) (indirectPc s ra) s.ie ∧
    GoesIf (.bihzd rc ra) s (halfOf (s.reg rc) 1 = 0#16) (indirectPc s ra) false ∧
    GoesIf (.bihze rc ra) s (halfOf (s.reg rc) 1 = 0#16) (indirectPc s ra) true ∧
    GoesIf (.bihnz rc ra) s (¬ halfOf (s.reg rc) 1 = 0#16) (indirectPc s ra) s.ie ∧
    GoesIf (.bihnzd rc ra) s (¬ halfOf (s.reg rc) 1 = 0#16) (indirectPc s ra) false ∧
    GoesIf (.bihnze rc ra) s (¬ halfOf (s.reg rc) 1 = 0#16) (indirectPc s ra) true

/-- hints, lnop, nop, dsync move pc and change nothing else; sync and syncc also empty the set of stored-to quadwords.
(47_branch_hint.md rules R334 to R338 (D22); 49_control_channel.md rules R393 to R397; 20_memory.md rule R62 (D11))
That hints are no-operations is decision D22 of the spec (log 35), Dirty is the model state of decision D11 (log 33).
-/
def Obligations.NoOperationsAndSync : Prop :=
  ∀ (rt ra : Reg) (s11 : BitVec 11) (s18 : BitVec 18) (s : State),
    Goes (.hbr s11 ra) s (nextPc s) s.ie ∧ Goes (.hbra s11 s18) s (nextPc s) s.ie ∧
      Goes (.hbrr s11 s18) s (nextPc s) s.ie ∧
    Goes .hbrp s (nextPc s) s.ie ∧ Goes .lnop s (nextPc s) s.ie ∧ Goes (.nop rt) s (nextPc s) s.ie ∧
      Goes .dsync s (nextPc s) s.ie ∧
    ∀ i : Instr, i = .sync ∨ i = .syncc →
    ∃ t, exec i s = .next t ∧ t.dirty = [] ∧ (∀ a, Memory.read t.ls a = Memory.read s.ls a) ∧ t.pc = nextPc s ∧
      SameRegs s t ∧ SameSpecial s t ∧ SameOutside s t ∧ t.fpscr = s.fpscr ∧ t.ie = s.ie

/-- fa, fs, fm: element by element one function of the two elements and FPSCR, which in the exact core is the exact
result. (48_floating_point.md rules R350 to R354 and R378 (D15, D16)) Outside the exact core nothing is said of the
values (log 21). -/
def Obligations.SingleAddSubtractMultiply : Prop :=
  ∃ add sub mul : Word → Word → Quad → Word,
    (∀ a b r f x y, CoreSp a x → CoreSp b y → CoreSp r (x + y) → x + y ≠ 0 → add a b f = r) ∧
    (∀ a b r f x y, CoreSp a x → CoreSp b y → CoreSp r (x - y) → x - y ≠ 0 → sub a b f = r) ∧
    (∀ a b r f x y, CoreSp a x → CoreSp b y → CoreSp r (x * y) → x * y ≠ 0 → mul a b f = r) ∧
    (∀ (rt ra rb : Reg) (s : State), FpComputes (.fa rt ra rb) s .fa [s.reg ra, s.reg rb] rt fun v => ∀ k, k < 4 →
        wordOf v k = add (wordOf (s.reg ra) k) (wordOf (s.reg rb) k) s.fpscr) ∧
    (∀ (rt ra rb : Reg) (s : State), FpComputes (.fs rt ra rb) s .fs [s.reg ra, s.reg rb] rt fun v => ∀ k, k < 4 →
        wordOf v k = sub (wordOf (s.reg ra) k) (wordOf (s.reg rb) k) s.fpscr) ∧
    (∀ (rt ra rb : Reg) (s : State), FpComputes (.fm rt ra rb) s .fm [s.reg ra, s.reg rb] rt fun v => ∀ k, k < 4 →
        wordOf v k = mul (wordOf (s.reg ra) k) (wordOf (s.reg rb) k) s.fpscr)

/-- fma, fms, fnms: one function of the three elements and FPSCR, exact in the exact core: ab + c, ab - c, c - ab.
(48_floating_point.md rules R350, R351, R355 to R357 and R378 (D15, D16; S6)) The instructions complete, write the
FPSCR as R378 says, and change nothing else but rt and pc (log 21). -/
def Obligations.SingleMultiplyAdd : Prop :=
  ∃ madd msub nmsub : Word → Word → Word → Quad → Word,
    (∀ a b c r p f x y z, CoreSp a x → CoreSp b y → CoreSp c z → CoreSp p (x * y) → CoreSp r (x * y + z) →
      x * y ≠ 0 →
      x * y + z ≠ 0 → madd a b c f = r) ∧
    (∀ a b c r p f x y z, CoreSp a x → CoreSp b y → CoreSp c z → CoreSp p (x * y) → CoreSp r (x * y - z) →
      x * y ≠ 0 →
      x * y - z ≠ 0 → msub a b c f = r) ∧
    (∀ a b c r p f x y z, CoreSp a x → CoreSp b y → CoreSp c z → CoreSp p (x * y) → CoreSp r (z - x * y) →
      x * y ≠ 0 →
      z - x * y ≠ 0 → nmsub a b c f = r) ∧
    (∀ (rt ra rb rc : Reg) (s : State), FpComputes (.fma rt ra rb rc) s .fma [s.reg ra, s.reg rb, s.reg rc] rt
        fun v => ∀ k, k < 4 → wordOf v k =
          madd (wordOf (s.reg ra) k) (wordOf (s.reg rb) k) (wordOf (s.reg rc) k) s.fpscr) ∧
    (∀ (rt ra rb rc : Reg) (s : State), FpComputes (.fms rt ra rb rc) s .fms [s.reg ra, s.reg rb, s.reg rc] rt
        fun v => ∀ k, k < 4 → wordOf v k =
          msub (wordOf (s.reg ra) k) (wordOf (s.reg rb) k) (wordOf (s.reg rc) k) s.fpscr) ∧
    (∀ (rt ra rb rc : Reg) (s : State), FpComputes (.fnms rt ra rb rc) s .fnms [s.reg ra, s.reg rb, s.reg rc] rt
        fun v => ∀ k, k < 4 → wordOf v k =
          nmsub (wordOf (s.reg ra) k) (wordOf (s.reg rb) k) (wordOf (s.reg rc) k) s.fpscr)

/-- dfa, dfs, dfm, dfma, dfms, dfnms, dfnma: one function of the doublewords and FPSCR, exact in the exact core.
(48_floating_point.md rules R350, R351, R358 to R364 and R378 (D15, D16; S6)) The instructions complete, write the
FPSCR as R378 says, and change nothing else but rt and pc (log 21). -/
def Obligations.DoubleArithmetic : Prop :=
  ∃ (add sub mul : DWord → DWord → Quad → DWord) (madd msub nmsub nmadd : DWord → DWord → DWord → Quad → DWord),
    (∀ a b r f x y, CoreDp a x → CoreDp b y → CoreDp r (x + y) → x + y ≠ 0 → add a b f = r) ∧
    (∀ a b r f x y, CoreDp a x → CoreDp b y → CoreDp r (x - y) → x - y ≠ 0 → sub a b f = r) ∧
    (∀ a b r f x y, CoreDp a x → CoreDp b y → CoreDp r (x * y) → x * y ≠ 0 → mul a b f = r) ∧
    (∀ a b c r p f x y z, CoreDp a x → CoreDp b y → CoreDp c z → CoreDp p (x * y) → CoreDp r (x * y + z) →
      x * y ≠ 0 →
      x * y + z ≠ 0 → madd a b c f = r) ∧
    (∀ a b c r p f x y z, CoreDp a x → CoreDp b y → CoreDp c z → CoreDp p (x * y) → CoreDp r (x * y - z) →
      x * y ≠ 0 →
      x * y - z ≠ 0 → msub a b c f = r) ∧
    (∀ a b c r p f x y z, CoreDp a x → CoreDp b y → CoreDp c z → CoreDp p (x * y) → CoreDp r (z - x * y) →
      x * y ≠ 0 →
      z - x * y ≠ 0 → nmsub a b c f = r) ∧
    (∀ a b c r p f x y z, CoreDp a x → CoreDp b y → CoreDp c z → CoreDp p (x * y) → CoreDp r (-(x * y + z)) →
      x * y ≠ 0 →
      -(x * y + z) ≠ 0 → nmadd a b c f = r) ∧
    (∀ (rt ra rb : Reg) (s : State), FpComputes (.dfa rt ra rb) s .dfa [s.reg ra, s.reg rb] rt fun v => ∀ k, k < 2 →
        dwordOf v k = add (dwordOf (s.reg ra) k) (dwordOf (s.reg rb) k) s.fpscr) ∧
    (∀ (rt ra rb : Reg) (s : State), FpComputes (.dfs rt ra rb) s .dfs [s.reg ra, s.reg rb] rt fun v => ∀ k, k < 2 →
        dwordOf v k = sub (dwordOf (s.reg ra) k) (dwordOf (s.reg rb) k) s.fpscr) ∧
    (∀ (rt ra rb : Reg) (s : State), FpComputes (.dfm rt ra rb) s .dfm [s.reg ra, s.reg rb] rt fun v => ∀ k, k < 2 →
        dwordOf v k = mul (dwordOf (s.reg ra) k) (dwordOf (s.reg rb) k) s.fpscr) ∧
    (∀ (rt ra rb : Reg) (s : State), FpComputes (.dfma rt ra rb) s .dfma [s.reg ra, s.reg rb, s.reg rt] rt
        fun v => ∀ k, k < 2 → dwordOf v k =
          madd (dwordOf (s.reg ra) k) (dwordOf (s.reg rb) k) (dwordOf (s.reg rt) k) s.fpscr) ∧
    (∀ (rt ra rb : Reg) (s : State), FpComputes (.dfms rt ra rb) s .dfms [s.reg ra, s.reg rb, s.reg rt] rt
        fun v => ∀ k, k < 2 → dwordOf v k =
          msub (dwordOf (s.reg ra) k) (dwordOf (s.reg rb) k) (dwordOf (s.reg rt) k) s.fpscr) ∧
    (∀ (rt ra rb : Reg) (s : State), FpComputes (.dfnms rt ra rb) s .dfnms [s.reg ra, s.reg rb, s.reg rt] rt
        fun v => ∀ k, k < 2 → dwordOf v k =
          nmsub (dwordOf (s.reg ra) k) (dwordOf (s.reg rb) k) (dwordOf (s.reg rt) k) s.fpscr) ∧
    (∀ (rt ra rb : Reg) (s : State), FpComputes (.dfnma rt ra rb) s .dfnma [s.reg ra, s.reg rb, s.reg rt] rt
        fun v => ∀ k, k < 2 → dwordOf v k =
          nmadd (dwordOf (s.reg ra) k) (dwordOf (s.reg rb) k) (dwordOf (s.reg rt) k) s.fpscr)

/-- frest, frsqest, fi act element by element; fesd and frds change precision, exactly in the exact core, zeros in odd
words. (48_floating_point.md rules R350, R351, R365 to R369 and R378 (D16)) The instructions complete, write the FPSCR
as R378 says, and change nothing else but rt and pc (log 21). -/
def Obligations.EstimatesAndPrecision : Prop :=
  ∃ (recip rsqrt : Word → Word) (interp : Word → Word → Word) (toDp : Word → Quad → DWord) (toSp : DWord → Quad →
  Word),
    (∀ a r f x, CoreSp a x → CoreDp r x → x ≠ 0 → toDp a f = r) ∧
    (∀ a r f x, CoreDp a x → CoreSp r x → x ≠ 0 → toSp a f = r) ∧
    ∀ (rt ra rb : Reg) (s : State),
      (FpComputes (.frest rt ra) s .frest [s.reg ra] rt fun v => ∀ k, k < 4 → wordOf v k =
        recip (wordOf (s.reg ra) k)) ∧
      (FpComputes (.frsqest rt ra) s .frsqest [s.reg ra] rt fun v => ∀ k, k < 4 →
        wordOf v k = rsqrt (wordOf (s.reg ra) k)) ∧
      (FpComputes (.fi rt ra rb) s .fi [s.reg ra, s.reg rb] rt fun v => ∀ k, k < 4 →
        wordOf v k = interp (wordOf (s.reg ra) k) (wordOf (s.reg rb) k)) ∧
      (FpComputes (.fesd rt ra) s .fesd [s.reg ra] rt fun v => ∀ k, k < 2 →
        dwordOf v k = toDp (wordOf (s.reg ra) (2 * k)) s.fpscr) ∧
      (FpComputes (.frds rt ra) s .frds [s.reg ra] rt fun v => ∀ k, k < 2 →
        wordOf v (2 * k) = toSp (dwordOf (s.reg ra) k) s.fpscr ∧ wordOf v (2 * k + 1) = 0#32)

/-- cflts, cfltu: core values times two to the scale, to that integer or one next to it, clamped at both ends of the
range. (48_floating_point.md rules R370, R371 and R378 (scale direction: D25)) The scale multiplies by decision D25
(log 24). -/
def Obligations.FloatToInteger : Prop :=
  ∀ (rt ra : Reg) (scale : BitVec 8) (s : State), scale.toNat ≤ 127 →
    (FpComputes (.cflts rt ra scale) s .cflts [s.reg ra] rt fun v => ∀ k x, k < 4 → CoreSp (wordOf (s.reg ra) k) x →
      if 2 ^ 31 ≤ x * 2 ^ scale.toNat then wordOf v k = 0x7FFFFFFF#32
      else if x * 2 ^ scale.toNat ≤ -2 ^ 31 then wordOf v k = 0x80000000#32
      else |((wordOf v k).toInt : ℚ) - x * 2 ^ scale.toNat| < 1) ∧
    (FpComputes (.cfltu rt ra scale) s .cfltu [s.reg ra] rt fun v => ∀ k x, k < 4 → CoreSp (wordOf (s.reg ra) k) x →
      if 2 ^ 32 ≤ x * 2 ^ scale.toNat then wordOf v k = 0xFFFFFFFF#32
      else if x * 2 ^ scale.toNat ≤ 0 then wordOf v k = 0x00000000#32
      else |((wordOf v k).toNat : ℚ) - x * 2 ^ scale.toNat| < 1)

/-- csflt, cuflt: the integer divided by two to the scale, exactly, where that is a core value; zero gives +0.
(48_floating_point.md rules R372, R373 and R378 (scale direction: D25)) The scale divides by decision D25 (log 24). -/
def Obligations.IntegerToFloat : Prop :=
  ∀ (rt ra : Reg) (scale : BitVec 8) (s : State), scale.toNat ≤ 127 →
    (FpComputes (.csflt rt ra scale) s .csflt [s.reg ra] rt fun v => ∀ k r, k < 4 →
      CoreSp r ((wordOf (s.reg ra) k).toInt / 2 ^ scale.toNat) → wordOf v k = r) ∧
    (FpComputes (.cuflt rt ra scale) s .cuflt [s.reg ra] rt fun v => ∀ k r, k < 4 →
      CoreSp r ((wordOf (s.reg ra) k).toNat / 2 ^ scale.toNat) → wordOf v k = r)

/-- fceq, fcmeq, fcgt, fcmgt: each word all ones or zeros, and on core values as their values or magnitudes compare.
(48_floating_point.md rules R350, R374 to R378 (D16)) Outside core values the answer is open (log 21). -/
def Obligations.FloatCompare : Prop :=
  ∀ (rt ra rb : Reg) (s : State),
    (FpComputes (.fceq rt ra rb) s .fceq [s.reg ra, s.reg rb] rt fun v => ∀ k, k < 4 →
      (wordOf v k = 0xFFFFFFFF#32 ∨ wordOf v k = 0x00000000#32) ∧
      ∀ x y, CoreSp (wordOf (s.reg ra) k) x → CoreSp (wordOf (s.reg rb) k) y → (wordOf v k = 0xFFFFFFFF#32 ↔ x =
        y)) ∧
    (FpComputes (.fcmeq rt ra rb) s .fcmeq [s.reg ra, s.reg rb] rt fun v => ∀ k, k < 4 →
      (wordOf v k = 0xFFFFFFFF#32 ∨ wordOf v k = 0x00000000#32) ∧
      ∀ x y, CoreSp (wordOf (s.reg ra) k) x → CoreSp (wordOf (s.reg rb) k) y → (wordOf v k =
        0xFFFFFFFF#32 ↔ |x| = |y|)) ∧
    (FpComputes (.fcgt rt ra rb) s .fcgt [s.reg ra, s.reg rb] rt fun v => ∀ k, k < 4 →
      (wordOf v k = 0xFFFFFFFF#32 ∨ wordOf v k = 0x00000000#32) ∧
      ∀ x y, CoreSp (wordOf (s.reg ra) k) x → CoreSp (wordOf (s.reg rb) k) y → (wordOf v k =
        0xFFFFFFFF#32 ↔ x > y)) ∧
    (FpComputes (.fcmgt rt ra rb) s .fcmgt [s.reg ra, s.reg rb] rt fun v => ∀ k, k < 4 →
      (wordOf v k = 0xFFFFFFFF#32 ∨ wordOf v k = 0x00000000#32) ∧
      ∀ x y, CoreSp (wordOf (s.reg ra) k) x → CoreSp (wordOf (s.reg rb) k) y → (wordOf v k =
        0xFFFFFFFF#32 ↔ |x| > |y|))

/-- fscrrd reads the whole FPSCR; fscrwr writes the bits of FPSCR_MASK and never its false target.
(48_floating_point.md rules R383 and R384 (FPSCR_MASK: general knowledge there, D15)) That only the bits of FPSCR_MASK
are kept is the spec's adopted general knowledge (log 20). -/
def Obligations.FpscrMoves : Prop :=
  ∀ (rt ra rc : Reg) (s : State),
    (Computes (.fscrrd rt) s rt fun v => v = s.fpscr) ∧
    ∃ t, exec (.fscrwr rc ra) s = .next t ∧ (∀ i, t.fpscr.getLsbD i =
      ((s.reg ra).getLsbD i && Config.fpscrMask.getLsbD i)) ∧
      t.pc = nextPc s ∧ t.ie = s.ie ∧ SameRegs s t ∧ Quiet s t

/-- stop and stopd: stopped, status code and NPC written, the event to the PPU, and nothing else changed.
(49_control_channel.md rules R391 and R392 (D19); 60_exceptions.md rule R411) For every state and all operands: after
stop u14 and stopd the run state is stopped, the status code is u14 or 0x3FFF, NPC holds pc or (pc + 4) modulo LS_SIZE
by the parameter NPC_AT_STOP (open, log 19), and the event with that code and that NPC is appended to the trace; pc
stays (decision D19); registers, memory, Dirty, SRR0, SPRs, FPSCR and IE are as before. -/
def Obligations.StopAndSignal : Prop :=
  ∀ (u14 : BitVec 14) (ra rb rc : Reg) (s : State),
    (∃ t, exec (.stop u14) s = .next t ∧ t.run = .stopped ∧ t.statusCode = u14 ∧
        (Config.npcAtStop = .pc → t.npc = s.pc) ∧
        (Config.npcAtStop = .pcPlus4 → t.npc.toNat = (s.pc.toNat + 4) % Config.lsSize) ∧
        t.trace = s.trace ++ [.stopAndSignal u14 t.npc] ∧ t.pc = s.pc ∧ SameRegs s t ∧ SameMemory s t ∧ t.srr0 =
          s.srr0 ∧
        (∀ n, t.spr n = s.spr n) ∧ t.fpscr = s.fpscr ∧ t.ie = s.ie ∧ t.stalled = s.stalled ∧ t.script =
          s.script ∧ t.now = s.now) ∧
    (∃ t, exec (.stopd ra rb rc) s = .next t ∧ t.run = .stopped ∧ t.statusCode = 0x3FFF#14 ∧
        (Config.npcAtStop = .pc → t.npc = s.pc) ∧
        (Config.npcAtStop = .pcPlus4 → t.npc.toNat = (s.pc.toNat + 4) % Config.lsSize) ∧
        t.trace = s.trace ++ [.stopAndSignal 0x3FFF#14 t.npc] ∧ t.pc = s.pc ∧ SameRegs s t ∧ SameMemory s t ∧
          t.srr0 = s.srr0 ∧
        (∀ n, t.spr n = s.spr n) ∧ t.fpscr = s.fpscr ∧ t.ie = s.ie ∧ t.stalled = s.stalled ∧ t.script =
          s.script ∧ t.now = s.now)

/-- mfspr and mtspr move word element 0 from and to a mapped SPR; for a number outside the map they are illegal
instructions. (49_control_channel.md rules R398 and R399 (C4); 60_exceptions.md rule R413) For every state and all
operands: where the SPR named is in the map, mfspr puts its contents in word element 0 of rt (words 1 to 3 stay open,
log 28) and changes nothing else but pc, and mtspr sets it to word element 0 of ra and changes no register, no other
SPR and nothing else but pc; where it is not in the map, both are the fault illegalInstruction of a word that decodes
to the instruction. Which numbers are mapped is the model's choice at reset (log 29). -/
def Obligations.SpecialPurposeRegisterMoves : Prop :=
  ∀ (rt ra : Reg) (n : SprNum) (s : State),
    (∀ v, s.spr n = some v →
      (Computes (.mfspr rt n) s rt fun x => wordOf x 0 = v) ∧
      ∃ t, exec (.mtspr n ra) s = .next t ∧ t.spr n = some (wordOf (s.reg ra) 0) ∧ (∀ m, m ≠ n → t.spr m =
        s.spr m) ∧
        t.pc = nextPc s ∧ SameRegs s t ∧ SameMemory s t ∧ SameOutside s t ∧ t.fpscr = s.fpscr ∧ t.ie = s.ie ∧
        t.srr0 = s.srr0 ∧ t.npc = s.npc ∧ t.statusCode = s.statusCode) ∧
    (s.spr n = none →
      (∃ w, exec (.mfspr rt n) s = .fault (.illegalInstruction w) ∧ decodeWord w = .ok (.mfspr rt n)) ∧
      (∃ w, exec (.mtspr n ra) s = .fault (.illegalInstruction w) ∧ decodeWord w = .ok (.mtspr n ra)))

/-- rdch takes the value and wrch gives the register, or each waits; rchcnt puts the count in word element 0.
(49_control_channel.md rules R400 to R402 (D13)) What the channel side answers is open (D13, logs 25 to 27). -/
def Obligations.Channels : Prop :=
  ∀ (rt ra : Reg) (ch : Chan) (s : State),
    (∀ v, s.chRead ch = some v → ∃ t, exec (.rdch rt ch) s = .next t ∧ t.reg rt = v ∧
      t.trace = s.trace ++ [.chRead ch v] ∧ t.stalled = false ∧ t.pc = nextPc s ∧ SameRegsBut rt s t ∧
        SameMemory s t ∧
      SameSpecial s t ∧ t.fpscr = s.fpscr ∧ t.ie = s.ie ∧ t.run = s.run ∧
      t.script = s.script ∧ t.now = s.now) ∧
    (s.chRead ch = none → ∃ t, exec (.rdch rt ch) s = .next t ∧ t.stalled = true ∧ t.pc = s.pc ∧ t.trace = s.trace ∧
      SameRegs s t ∧ SameMemory s t ∧ SameSpecial s t ∧ t.fpscr = s.fpscr ∧ t.ie = s.ie ∧ t.run = s.run ∧
      t.script = s.script ∧ t.now = s.now) ∧
    (Computes (.rchcnt rt ch) s rt fun v => wordOf v 0 = s.chCount ch ∧ ∀ k, 0 < k → k < 4 → wordOf v k = 0#32) ∧
    (s.chWrite ch (s.reg ra) = true → ∃ t, exec (.wrch ch ra) s = .next t ∧
      t.trace = s.trace ++ [.chWrite ch (s.reg ra)] ∧ t.stalled = false ∧ t.pc = nextPc s ∧
      SameRegs s t ∧ SameMemory s t ∧ SameSpecial s t ∧ t.fpscr = s.fpscr ∧ t.ie = s.ie ∧ t.run = s.run ∧
      t.script = s.script ∧ t.now = s.now) ∧
    (s.chWrite ch (s.reg ra) = false → ∃ t, exec (.wrch ch ra) s = .next t ∧ t.stalled = true ∧ t.pc = s.pc ∧
      t.trace = s.trace ∧ SameRegs s t ∧ SameMemory s t ∧ SameSpecial s t ∧ t.fpscr = s.fpscr ∧ t.ie = s.ie ∧
      t.run = s.run ∧ t.script = s.script ∧ t.now = s.now)
end

