-- ==== Sys2Proof/Laws/Elements.lean ====
section
/-! SUPPORT. Sys2Proof/Laws/Elements.lean: reading the elements of a quadword that was put together from elements. -/

namespace Sys2Proof.Machine

/-- Element `k` of a quadword made of elements. -/
theorem wordOf_ofWords (f : Nat → Word) {k : Nat} (h : k < 4) : wordOf (ofWords f) k = f k := by
  unfold wordOf ofWords
  interval_cases k <;>
    (simp (disch := decide) only [BitVec.extractLsb'_append_eq_of_add_le, BitVec.extractLsb'_append_eq_of_le]
     exact BitVec.extractLsb'_eq_self)

/-- A bit of an element is a bit of the quadword. -/
theorem getLsbD_wordOf (q : Quad) (k i : Nat) :
    (wordOf q k).getLsbD i = (decide (i < 32) && q.getLsbD (96 - 32 * k + i)) := by
  simp [wordOf, BitVec.getLsbD_extractLsb']

/-- Quadwords with equal elements are equal. -/
theorem quad_ext_word {x y : Quad} (h : ∀ k, k < 4 → wordOf x k = wordOf y k) : x = y := by
  apply BitVec.eq_of_getLsbD_eq
  intro i hi
  have e := congrArg (fun v => BitVec.getLsbD v (i % 32)) (h (3 - i / 32) (by omega))
  simp only [getLsbD_wordOf] at e
  have h1 : i % 32 < 32 := Nat.mod_lt _ (by omega)
  have h2 : 96 - 32 * (3 - i / 32) + i % 32 = i := by omega
  simpa [h1, h2] using e

/-- Element `k` of a quadword made of elements. -/
theorem dwordOf_ofDWords (f : Nat → DWord) {k : Nat} (h : k < 2) : dwordOf (ofDWords f) k = f k := by
  unfold dwordOf ofDWords
  interval_cases k <;>
    (simp (disch := decide) only [BitVec.extractLsb'_append_eq_of_add_le, BitVec.extractLsb'_append_eq_of_le]
     exact BitVec.extractLsb'_eq_self)

/-- A bit of an element is a bit of the quadword. -/
theorem getLsbD_dwordOf (q : Quad) (k i : Nat) :
    (dwordOf q k).getLsbD i = (decide (i < 64) && q.getLsbD (64 - 64 * k + i)) := by
  simp [dwordOf, BitVec.getLsbD_extractLsb']

/-- Quadwords with equal elements are equal. -/
theorem quad_ext_dword {x y : Quad} (h : ∀ k, k < 2 → dwordOf x k = dwordOf y k) : x = y := by
  apply BitVec.eq_of_getLsbD_eq
  intro i hi
  have e := congrArg (fun v => BitVec.getLsbD v (i % 64)) (h (1 - i / 64) (by omega))
  simp only [getLsbD_dwordOf] at e
  have h1 : i % 64 < 64 := Nat.mod_lt _ (by omega)
  have h2 : 64 - 64 * (1 - i / 64) + i % 64 = i := by omega
  simpa [h1, h2] using e

/-- Element `k` of a quadword made of elements. -/
theorem halfOf_ofHalves (f : Nat → Half) {k : Nat} (h : k < 8) : halfOf (ofHalves f) k = f k := by
  unfold halfOf ofHalves
  interval_cases k <;>
    (simp (disch := decide) only [BitVec.extractLsb'_append_eq_of_add_le, BitVec.extractLsb'_append_eq_of_le]
     exact BitVec.extractLsb'_eq_self)

/-- A bit of an element is a bit of the quadword. -/
theorem getLsbD_halfOf (q : Quad) (k i : Nat) :
    (halfOf q k).getLsbD i = (decide (i < 16) && q.getLsbD (112 - 16 * k + i)) := by
  simp [halfOf, BitVec.getLsbD_extractLsb']

/-- Quadwords with equal elements are equal. -/
theorem quad_ext_half {x y : Quad} (h : ∀ k, k < 8 → halfOf x k = halfOf y k) : x = y := by
  apply BitVec.eq_of_getLsbD_eq
  intro i hi
  have e := congrArg (fun v => BitVec.getLsbD v (i % 16)) (h (7 - i / 16) (by omega))
  simp only [getLsbD_halfOf] at e
  have h1 : i % 16 < 16 := Nat.mod_lt _ (by omega)
  have h2 : 112 - 16 * (7 - i / 16) + i % 16 = i := by omega
  simpa [h1, h2] using e

/-- Element `k` of a quadword made of elements. -/
theorem byteOf_ofBytes (f : Nat → Byte) {k : Nat} (h : k < 16) : byteOf (ofBytes f) k = f k := by
  unfold byteOf ofBytes
  interval_cases k <;>
    (simp (disch := decide) only [BitVec.extractLsb'_append_eq_of_add_le, BitVec.extractLsb'_append_eq_of_le]
     exact BitVec.extractLsb'_eq_self)

/-- A bit of an element is a bit of the quadword. -/
theorem getLsbD_byteOf (q : Quad) (k i : Nat) :
    (byteOf q k).getLsbD i = (decide (i < 8) && q.getLsbD (120 - 8 * k + i)) := by
  simp [byteOf, BitVec.getLsbD_extractLsb']

/-- Quadwords with equal elements are equal. -/
theorem quad_ext_byte {x y : Quad} (h : ∀ k, k < 16 → byteOf x k = byteOf y k) : x = y := by
  apply BitVec.eq_of_getLsbD_eq
  intro i hi
  have e := congrArg (fun v => BitVec.getLsbD v (i % 8)) (h (15 - i / 8) (by omega))
  simp only [getLsbD_byteOf] at e
  have h1 : i % 8 < 8 := Nat.mod_lt _ (by omega)
  have h2 : 120 - 8 * (15 - i / 8) + i % 8 = i := by omega
  simpa [h1, h2] using e

/-! ## Operations on all elements -/

theorem wordOf_mapWords (f : Word → Word) (x : Quad) {k : Nat} (h : k < 4) : wordOf (mapWords f x) k = f (wordOf x k) :=
  wordOf_ofWords _ h

theorem halfOf_mapHalves (f : Half → Half) (x : Quad) {k : Nat} (h : k < 8) : halfOf (mapHalves f x) k = f (halfOf x k) :=
  halfOf_ofHalves _ h

theorem byteOf_mapBytes (f : Byte → Byte) (x : Quad) {k : Nat} (h : k < 16) : byteOf (mapBytes f x) k = f (byteOf x k) :=
  byteOf_ofBytes _ h

theorem wordOf_mapWords2 (f : Word → Word → Word) (x y : Quad) {k : Nat} (h : k < 4) :
    wordOf (mapWords2 f x y) k = f (wordOf x k) (wordOf y k) := wordOf_ofWords _ h

theorem halfOf_mapHalves2 (f : Half → Half → Half) (x y : Quad) {k : Nat} (h : k < 8) :
    halfOf (mapHalves2 f x y) k = f (halfOf x k) (halfOf y k) := halfOf_ofHalves _ h

theorem byteOf_mapBytes2 (f : Byte → Byte → Byte) (x y : Quad) {k : Nat} (h : k < 16) :
    byteOf (mapBytes2 f x y) k = f (byteOf x k) (byteOf y k) := byteOf_ofBytes _ h

theorem dwordOf_mapDWords2 (f : DWord → DWord → DWord) (x y : Quad) {k : Nat} (h : k < 2) :
    dwordOf (mapDWords2 f x y) k = f (dwordOf x k) (dwordOf y k) := dwordOf_ofDWords _ h

theorem wordOf_mapWords3 (f : Word → Word → Word → Word) (x y z : Quad) {k : Nat} (h : k < 4) :
    wordOf (mapWords3 f x y z) k = f (wordOf x k) (wordOf y k) (wordOf z k) := wordOf_ofWords _ h

theorem dwordOf_mapDWords3 (f : DWord → DWord → DWord → DWord) (x y z : Quad) {k : Nat} (h : k < 2) :
    dwordOf (mapDWords3 f x y z) k = f (dwordOf x k) (dwordOf y k) (dwordOf z k) := dwordOf_ofDWords _ h

/-- Word element 0 of a value put there. -/
theorem wordOf_inWord0_zero (w : Word) : wordOf (inWord0 w) 0 = w := by
  unfold wordOf inWord0
  simp (disch := decide) only [BitVec.extractLsb'_append_eq_of_le]
  exact BitVec.extractLsb'_eq_self

/-- The other word elements are zero. -/
theorem wordOf_inWord0_of_pos (w : Word) {k : Nat} (h0 : 0 < k) (h : k < 4) : wordOf (inWord0 w) k = 0#32 := by
  unfold wordOf inWord0
  interval_cases k <;>
    (simp (disch := decide) only [BitVec.extractLsb'_append_eq_of_add_le, BitVec.extractLsb'_append_eq_of_le]
     exact BitVec.extractLsb'_eq_self)

/-- The bits of a repeated bit. -/
theorem getLsbD_rep (n : Nat) (b : Bool) (i : Nat) : (rep n b).getLsbD i = (decide (i < n) && b) := by
  cases b <;> simp [rep]

/-- A mask of `n` ones over `m` zeros reduces modulo `2 ^ (m + n)` and clears the `m` low bits. -/
theorem and_ones_over_zeros (v m n : Nat) : v &&& (2 ^ n - 1) <<< m = v % 2 ^ (m + n) / 2 ^ m * 2 ^ m := by
  rw [← Nat.shiftRight_eq_div_pow, ← Nat.shiftLeft_eq]
  apply Nat.eq_of_testBit_eq
  intro i
  simp only [Nat.testBit_and, Nat.testBit_shiftLeft, Nat.testBit_shiftRight, Nat.testBit_mod_two_pow,
    Nat.testBit_two_pow_sub_one]
  by_cases h : m ≤ i
  · rw [Nat.add_sub_cancel' h, show decide (i - m < n) = decide (i < m + n) from decide_eq_decide.2 (by omega)]
    simp only [ge_iff_le, h, decide_true, Bool.true_and, Bool.and_comm]
  · simp [h]

end Sys2Proof.Machine
end

