-- ==== Sys2Proof/Laws/Arith.lean ====
section
/-! SUPPORT. Sys2Proof/Laws/Arith.lean: the integer operations of one element as numbers: sums, products, counts, gathered bits,
masks and compares. -/

namespace Sys2Proof.Machine

/-! ## Sums and products -/

theorem add_eq_ofInt {n : Nat} (x y : BitVec n) : x + y = BitVec.ofInt n (x.toInt + y.toInt) := by
  rw [BitVec.ofInt_add, BitVec.ofInt_toInt, BitVec.ofInt_toInt]

theorem sub_eq_ofInt {n : Nat} (x y : BitVec n) : x - y = BitVec.ofInt n (x.toInt - y.toInt) := by
  rw [Int.sub_eq_add_neg, BitVec.ofInt_add, BitVec.ofInt_neg, BitVec.ofInt_toInt, BitVec.ofInt_toInt,
    BitVec.sub_eq_add_neg]

/-- A signed product of halfwords is exact (R165). -/
theorem toInt_mulS (x y : Half) : (mulS x y).toInt = x.toInt * y.toInt := by
  have hx := BitVec.le_toInt x
  have hx2 := BitVec.toInt_lt (x := x)
  have hy := BitVec.le_toInt y
  have hy2 := BitVec.toInt_lt (x := y)
  have h1 : -2 ^ 30 ≤ x.toInt * y.toInt := by norm_num at *; nlinarith
  have h2 : x.toInt * y.toInt ≤ 2 ^ 30 := by norm_num at *; nlinarith
  unfold mulS
  rw [BitVec.toInt_ofInt, Int.bmod_eq_of_le] <;> omega

/-- An unsigned product of halfwords is exact (R165). -/
theorem toNat_mulU (x y : Half) : (mulU x y).toNat = x.toNat * y.toNat := by
  have h : x.toNat * y.toNat < 2 ^ 16 * 2 ^ 16 := Nat.mul_lt_mul'' x.isLt y.isLt
  unfold mulU
  rw [BitVec.toNat_ofNat, Nat.mod_eq_of_lt (by simpa using h)]

/-! ## Counts -/

/-- The count stands before the first 1 bit. -/
theorem leadingZeros_spec (l : List Bool) : leadingZeros l ≤ l.length ∧
    (∀ i, i < leadingZeros l → l[i]? = some false) ∧
    (leadingZeros l < l.length → l[leadingZeros l]? = some true) := by
  induction l with
  | nil => simp [leadingZeros]
  | cons b bs ih =>
    obtain ⟨h1, h2, h3⟩ := ih
    cases b
    · simp only [leadingZeros, List.length_cons]
      refine ⟨by simpa using h1, fun i hi => ?_, fun h => ?_⟩
      · cases i with
        | zero => rfl
        | succ i =>
          simp at hi ⊢
          exact h2 i hi
      · simp at h ⊢
        exact h3 h
    · simp [leadingZeros]

theorem getElem?_msbFirst {n : Nat} (v : BitVec n) {i : Nat} (h : i < n) :
    (msbFirst v)[i]? = some (v.getLsbD (n - 1 - i)) := by
  unfold msbFirst
  simp [h]

theorem length_msbFirst {n : Nat} (v : BitVec n) : (msbFirst v).length = n := by simp [msbFirst]

/-- The order in which bits are counted does not matter. -/
theorem popCount_eq {n : Nat} (v : BitVec n) : popCount v = (List.range n).countP fun i => v.getLsbD i := by
  have key : msbFirst v = ((List.range n).map fun i => v.getLsbD i).reverse := by
    apply List.ext_getElem?
    intro i
    by_cases h : i < n
    · have h1 : ((List.range n).map fun i => v.getLsbD i).length = n := by simp
      rw [getElem?_msbFirst v h, List.getElem?_reverse (by rw [h1]; exact h), h1]
      simp [show n - 1 - i < n by omega]
    · simp [msbFirst, h]
  unfold popCount
  rw [key, List.countP_reverse, List.countP_map]
  rfl

/-! ## Gathered bits and masks -/

theorem testBit_gatherNat (f : Nat → Bool) (n i : Nat) :
    (gatherNat f n).testBit i = (decide (i < n) && f (n - 1 - i)) := by
  induction n generalizing i with
  | zero => simp [gatherNat]
  | succ n ih =>
    cases i with
    | zero =>
      unfold gatherNat
      rw [Nat.testBit_zero]
      cases hf : f n <;> simp [hf]
    | succ i =>
      unfold gatherNat
      have h2 : (2 * gatherNat f n + (f n).toNat) / 2 = gatherNat f n := by
        have := Bool.toNat_lt (f n)
        omega
      rw [Nat.testBit_succ, h2, ih]
      simp [show n - (i + 1) = n - 1 - i by omega]

/-- A gathered bit (R182 to R184). -/
theorem getLsbD_gather (f : Nat → Bool) {n : Nat} (i : Nat) (hn : n ≤ 32) :
    (gather f n).getLsbD i = (decide (i < n) && f (n - 1 - i)) := by
  unfold gather
  rw [BitVec.getLsbD_ofNat, testBit_gatherNat]
  by_cases h : i < n
  · simp [h]
    intro _
    omega
  · simp [h]

/-- A mask by the relation it stands for (R270). -/
theorem rep_eq_ite (n : Nat) {b : Bool} {p : Prop} [Decidable p] (h : b = true ↔ p) :
    rep n b = if p then BitVec.allOnes n else 0#n := by
  unfold rep
  by_cases hp : p
  · rw [if_pos hp, if_pos (h.2 hp)]
  · rw [if_neg hp, if_neg fun x => hp (h.1 x)]

theorem gtS_iff {n : Nat} (x y : BitVec n) : gtS x y = true ↔ x.toInt > y.toInt := by
  unfold gtS
  simp

theorem gtU_iff {n : Nat} (x y : BitVec n) : gtU x y = true ↔ x.toNat > y.toNat := by
  unfold gtU
  simp

end Sys2Proof.Machine
end

