-- ==== Sys2Proof/Laws/Decode.lean ====
section
/-! SUPPORT. Sys2Proof/Laws/Decode.lean: no two rows of the opcode table match one word, so a row that matches is the
row the decoder takes; the fixed bits and the fields of a word put together by each format of the encoder. -/

namespace Sys2Proof

/-- The fixed bits of two rows differ where both rows fix a bit. -/
def OpRow.apart (r q : OpRow) : Bool := !((r.mask &&& q.mask &&& (r.pattern ^^^ q.pattern)) == 0#32)

/-- One word does not match two rows that are apart. -/
theorem OpRow.not_hits_of_apart {r q : OpRow} (h : r.apart q = true) {w : Word} (hr : r.hits w = true) :
    q.hits w = false := by
  by_contra hq
  simp only [Bool.not_eq_false] at hq
  simp only [OpRow.hits, beq_iff_eq] at hr hq
  have : r.mask &&& q.mask &&& (r.pattern ^^^ q.pattern) = 0#32 := by
    rw [← hr, ← hq]
    apply BitVec.eq_of_getLsbD_eq
    intro i _
    simp only [BitVec.getLsbD_and, BitVec.getLsbD_xor, BitVec.getLsbD_zero]
    cases w.getLsbD i <;> cases r.mask.getLsbD i <;> cases q.mask.getLsbD i <;> rfl
  simp [OpRow.apart, this] at h

/-- The rows of the opcode table are pairwise apart (R80, R85). -/
theorem opTable_apart : opTable.Pairwise fun r q => r.apart q = true := by decide +kernel

/-- A row that matches is the first that matches, in a list of rows apart from each other. -/
theorem find?_of_apart {l : List OpRow} (hl : l.Pairwise fun r q => r.apart q = true) {r : OpRow} (hr : r ∈ l)
    {w : Word} (hw : r.hits w = true) : l.find? (·.hits w) = some r := by
  induction l with
  | nil => cases hr
  | cons q l ih =>
    rw [List.pairwise_cons] at hl
    rcases List.mem_cons.1 hr with rfl | hr
    · simp [List.find?, hw]
    · by_cases hq : q.hits w = true
      · have h := OpRow.not_hits_of_apart (hl.1 r hr) hq
        rw [hw] at h
        cases h
      · simp only [Bool.not_eq_true] at hq
        simp only [List.find?, hq]
        exact ih hl.2 hr

/-- The decoder answers what a matching row builds (R85). -/
theorem decodeWord_of_hits {r : OpRow} (hr : r ∈ opTable) {w : Word} (hw : r.hits w = true) :
    decodeWord w = .ok (r.build w) := by
  rw [decodeWord, find?_of_apart opTable_apart hr hw]

/-- The same for the row at a place of the table. -/
theorem decodeWord_of_row (k : Nat) {r : OpRow} (hr : opTable[k]? = some r) {w : Word} (hw : (w &&& r.mask) = r.pattern) :
    decodeWord w = .ok (r.build w) :=
  decodeWord_of_hits (List.mem_of_getElem? hr) (by simp [OpRow.hits, hw])

/-- The decoder answers `invalid` for a word that matches no row (R82). -/
theorem decodeWord_of_no_hits {w : Word} (h : ∀ r ∈ opTable, r.hits w = false) : decodeWord w = .error (.invalid w) := by
  rw [decodeWord, List.find?_eq_none.2 (fun r hr => by simp [h r hr])]

/-- The four bytes of a word make the word again. -/
theorem wordOfBytes_bytesOfWord (w : Word) :
    wordOfBytes (w.extractLsb' 24 8) (w.extractLsb' 16 8) (w.extractLsb' 8 8) (w.extractLsb' 0 8) = w := by
  apply BitVec.eq_of_getLsbD_eq
  intro i hi
  unfold wordOfBytes
  interval_cases i <;> simp only [BitVec.getLsbD_append, BitVec.getLsbD_extractLsb'] <;> simp

/-- Decoding the bytes of a word, whatever follows. -/
theorem decode_bytesOfWord (w : Word) (rest : List Byte) :
    decode (bytesOfWord w ++ rest) =
      match decodeWord w with
      | .ok i => .ok (i, rest)
      | .error e => .error e := by
  have h : decode (bytesOfWord w ++ rest) = match decodeWord (wordOfBytes (w.extractLsb' 24 8) (w.extractLsb' 16 8)
      (w.extractLsb' 8 8) (w.extractLsb' 0 8)) with
    | .ok i => .ok (i, rest)
    | .error e => .error e := rfl
  rw [h, wordOfBytes_bytesOfWord]

/-! ## The formats of the encoder (R78): the opcode of a word, and its fields -/

theorem encRR_fixed (op : BitVec 11) (b a t : BitVec 7) : encRR op b a t &&& 0xFFE00000#32 = op ++ 0#21 := by
  apply BitVec.eq_of_getLsbD_eq
  intro i hi
  unfold encRR
  interval_cases i <;> simp only [BitVec.getLsbD_append, BitVec.getLsbD_and] <;> simp

@[simp] theorem fT_encRR (op : BitVec 11) (b a t : BitVec 7) : fT (encRR op b a t) = t := by
  apply BitVec.eq_of_getLsbD_eq
  intro i hi
  unfold fT encRR
  interval_cases i <;> simp only [BitVec.getLsbD_append, BitVec.getLsbD_extractLsb'] <;> simp

@[simp] theorem fA_encRR (op : BitVec 11) (b a t : BitVec 7) : fA (encRR op b a t) = a := by
  apply BitVec.eq_of_getLsbD_eq
  intro i hi
  unfold fA encRR
  interval_cases i <;> simp only [BitVec.getLsbD_append, BitVec.getLsbD_extractLsb'] <;> simp

@[simp] theorem fB_encRR (op : BitVec 11) (b a t : BitVec 7) : fB (encRR op b a t) = b := by
  apply BitVec.eq_of_getLsbD_eq
  intro i hi
  unfold fB encRR
  interval_cases i <;> simp only [BitVec.getLsbD_append, BitVec.getLsbD_extractLsb'] <;> simp

@[simp] theorem fI7_encRR (op : BitVec 11) (b a t : BitVec 7) : fI7 (encRR op b a t) = b := by
  apply BitVec.eq_of_getLsbD_eq
  intro i hi
  unfold fI7 encRR
  interval_cases i <;> simp only [BitVec.getLsbD_append, BitVec.getLsbD_extractLsb'] <;> simp

theorem encRRR_fixed (op : BitVec 4) (rt b a c : BitVec 7) : encRRR op rt b a c &&& 0xF0000000#32 = op ++ 0#28 := by
  apply BitVec.eq_of_getLsbD_eq
  intro i hi
  unfold encRRR
  interval_cases i <;> simp only [BitVec.getLsbD_append, BitVec.getLsbD_and] <;> simp

@[simp] theorem fRT_encRRR (op : BitVec 4) (rt b a c : BitVec 7) : fRT (encRRR op rt b a c) = rt := by
  apply BitVec.eq_of_getLsbD_eq
  intro i hi
  unfold fRT encRRR
  interval_cases i <;> simp only [BitVec.getLsbD_append, BitVec.getLsbD_extractLsb'] <;> simp

@[simp] theorem fA_encRRR (op : BitVec 4) (rt b a c : BitVec 7) : fA (encRRR op rt b a c) = a := by
  apply BitVec.eq_of_getLsbD_eq
  intro i hi
  unfold fA encRRR
  interval_cases i <;> simp only [BitVec.getLsbD_append, BitVec.getLsbD_extractLsb'] <;> simp

@[simp] theorem fB_encRRR (op : BitVec 4) (rt b a c : BitVec 7) : fB (encRRR op rt b a c) = b := by
  apply BitVec.eq_of_getLsbD_eq
  intro i hi
  unfold fB encRRR
  interval_cases i <;> simp only [BitVec.getLsbD_append, BitVec.getLsbD_extractLsb'] <;> simp

@[simp] theorem fT_encRRR (op : BitVec 4) (rt b a c : BitVec 7) : fT (encRRR op rt b a c) = c := by
  apply BitVec.eq_of_getLsbD_eq
  intro i hi
  unfold fT encRRR
  interval_cases i <;> simp only [BitVec.getLsbD_append, BitVec.getLsbD_extractLsb'] <;> simp

theorem encRI8_fixed (op : BitVec 10) (i8 : BitVec 8) (a t : BitVec 7) : encRI8 op i8 a t &&& 0xFFC00000#32 = op ++ 0#22 := by
  apply BitVec.eq_of_getLsbD_eq
  intro i hi
  unfold encRI8
  interval_cases i <;> simp only [BitVec.getLsbD_append, BitVec.getLsbD_and] <;> simp

@[simp] theorem fT_encRI8 (op : BitVec 10) (i8 : BitVec 8) (a t : BitVec 7) : fT (encRI8 op i8 a t) = t := by
  apply BitVec.eq_of_getLsbD_eq
  intro i hi
  unfold fT encRI8
  interval_cases i <;> simp only [BitVec.getLsbD_append, BitVec.getLsbD_extractLsb'] <;> simp

@[simp] theorem fA_encRI8 (op : BitVec 10) (i8 : BitVec 8) (a t : BitVec 7) : fA (encRI8 op i8 a t) = a := by
  apply BitVec.eq_of_getLsbD_eq
  intro i hi
  unfold fA encRI8
  interval_cases i <;> simp only [BitVec.getLsbD_append, BitVec.getLsbD_extractLsb'] <;> simp

@[simp] theorem fI8_encRI8 (op : BitVec 10) (i8 : BitVec 8) (a t : BitVec 7) : fI8 (encRI8 op i8 a t) = i8 := by
  apply BitVec.eq_of_getLsbD_eq
  intro i hi
  unfold fI8 encRI8
  interval_cases i <;> simp only [BitVec.getLsbD_append, BitVec.getLsbD_extractLsb'] <;> simp

theorem encRI10_fixed (op : BitVec 8) (i10 : BitVec 10) (a t : BitVec 7) : encRI10 op i10 a t &&& 0xFF000000#32 = op ++ 0#24 := by
  apply BitVec.eq_of_getLsbD_eq
  intro i hi
  unfold encRI10
  interval_cases i <;> simp only [BitVec.getLsbD_append, BitVec.getLsbD_and] <;> simp

@[simp] theorem fT_encRI10 (op : BitVec 8) (i10 : BitVec 10) (a t : BitVec 7) : fT (encRI10 op i10 a t) = t := by
  apply BitVec.eq_of_getLsbD_eq
  intro i hi
  unfold fT encRI10
  interval_cases i <;> simp only [BitVec.getLsbD_append, BitVec.getLsbD_extractLsb'] <;> simp

@[simp] theorem fA_encRI10 (op : BitVec 8) (i10 : BitVec 10) (a t : BitVec 7) : fA (encRI10 op i10 a t) = a := by
  apply BitVec.eq_of_getLsbD_eq
  intro i hi
  unfold fA encRI10
  interval_cases i <;> simp only [BitVec.getLsbD_append, BitVec.getLsbD_extractLsb'] <;> simp

@[simp] theorem fI10_encRI10 (op : BitVec 8) (i10 : BitVec 10) (a t : BitVec 7) : fI10 (encRI10 op i10 a t) = i10 := by
  apply BitVec.eq_of_getLsbD_eq
  intro i hi
  unfold fI10 encRI10
  interval_cases i <;> simp only [BitVec.getLsbD_append, BitVec.getLsbD_extractLsb'] <;> simp

theorem encRI16_fixed (op : BitVec 9) (i16 : BitVec 16) (t : BitVec 7) : encRI16 op i16 t &&& 0xFF800000#32 = op ++ 0#23 := by
  apply BitVec.eq_of_getLsbD_eq
  intro i hi
  unfold encRI16
  interval_cases i <;> simp only [BitVec.getLsbD_append, BitVec.getLsbD_and] <;> simp

@[simp] theorem fT_encRI16 (op : BitVec 9) (i16 : BitVec 16) (t : BitVec 7) : fT (encRI16 op i16 t) = t := by
  apply BitVec.eq_of_getLsbD_eq
  intro i hi
  unfold fT encRI16
  interval_cases i <;> simp only [BitVec.getLsbD_append, BitVec.getLsbD_extractLsb'] <;> simp

@[simp] theorem fI16_encRI16 (op : BitVec 9) (i16 : BitVec 16) (t : BitVec 7) : fI16 (encRI16 op i16 t) = i16 := by
  apply BitVec.eq_of_getLsbD_eq
  intro i hi
  unfold fI16 encRI16
  interval_cases i <;> simp only [BitVec.getLsbD_append, BitVec.getLsbD_extractLsb'] <;> simp

theorem encRI18_fixed (op : BitVec 7) (i18 : BitVec 18) (t : BitVec 7) : encRI18 op i18 t &&& 0xFE000000#32 = op ++ 0#25 := by
  apply BitVec.eq_of_getLsbD_eq
  intro i hi
  unfold encRI18
  interval_cases i <;> simp only [BitVec.getLsbD_append, BitVec.getLsbD_and] <;> simp

@[simp] theorem fT_encRI18 (op : BitVec 7) (i18 : BitVec 18) (t : BitVec 7) : fT (encRI18 op i18 t) = t := by
  apply BitVec.eq_of_getLsbD_eq
  intro i hi
  unfold fT encRI18
  interval_cases i <;> simp only [BitVec.getLsbD_append, BitVec.getLsbD_extractLsb'] <;> simp

@[simp] theorem fI18_encRI18 (op : BitVec 7) (i18 : BitVec 18) (t : BitVec 7) : fI18 (encRI18 op i18 t) = i18 := by
  apply BitVec.eq_of_getLsbD_eq
  intro i hi
  unfold fI18 encRI18
  interval_cases i <;> simp only [BitVec.getLsbD_append, BitVec.getLsbD_extractLsb'] <;> simp

theorem encHBR_fixed (op : BitVec 12) (s11 : BitVec 11) (a : BitVec 7) : encHBR op s11 a &&& 0xFFF00000#32 = op ++ 0#20 := by
  apply BitVec.eq_of_getLsbD_eq
  intro i hi
  unfold encHBR
  interval_cases i <;> simp only [BitVec.getLsbD_append, BitVec.getLsbD_and] <;> simp

@[simp] theorem fRoHbr_encHBR (op : BitVec 12) (s11 : BitVec 11) (a : BitVec 7) : fRoHbr (encHBR op s11 a) = s11.extractLsb' 2 9 := by
  apply BitVec.eq_of_getLsbD_eq
  intro i hi
  unfold fRoHbr encHBR
  interval_cases i <;> simp only [BitVec.getLsbD_append, BitVec.getLsbD_extractLsb'] <;> simp

@[simp] theorem fA_encHBR (op : BitVec 12) (s11 : BitVec 11) (a : BitVec 7) : fA (encHBR op s11 a) = a := by
  apply BitVec.eq_of_getLsbD_eq
  intro i hi
  unfold fA encHBR
  interval_cases i <;> simp only [BitVec.getLsbD_append, BitVec.getLsbD_extractLsb'] <;> simp

theorem encHBRA_fixed (op : BitVec 7) (s11 : BitVec 11) (i16 : BitVec 16) : encHBRA op s11 i16 &&& 0xFE000000#32 = op ++ 0#25 := by
  apply BitVec.eq_of_getLsbD_eq
  intro i hi
  unfold encHBRA
  interval_cases i <;> simp only [BitVec.getLsbD_append, BitVec.getLsbD_and] <;> simp

@[simp] theorem fRoHbra_encHBRA (op : BitVec 7) (s11 : BitVec 11) (i16 : BitVec 16) : fRoHbra (encHBRA op s11 i16) = s11.extractLsb' 2 9 := by
  apply BitVec.eq_of_getLsbD_eq
  intro i hi
  unfold fRoHbra encHBRA
  interval_cases i <;> simp only [BitVec.getLsbD_append, BitVec.getLsbD_extractLsb'] <;> simp

@[simp] theorem fI16_encHBRA (op : BitVec 7) (s11 : BitVec 11) (i16 : BitVec 16) : fI16 (encHBRA op s11 i16) = i16 := by
  apply BitVec.eq_of_getLsbD_eq
  intro i hi
  unfold fI16 encHBRA
  interval_cases i <;> simp only [BitVec.getLsbD_append, BitVec.getLsbD_extractLsb'] <;> simp

theorem encStop_fixed (op : BitVec 11) (u14 : BitVec 14) : encStop op u14 &&& 0xFFE00000#32 = op ++ 0#21 := by
  apply BitVec.eq_of_getLsbD_eq
  intro i hi
  unfold encStop
  interval_cases i <;> simp only [BitVec.getLsbD_append, BitVec.getLsbD_and] <;> simp

@[simp] theorem fI14_encStop (op : BitVec 11) (u14 : BitVec 14) : fI14 (encStop op u14) = u14 := by
  apply BitVec.eq_of_getLsbD_eq
  intro i hi
  unfold fI14 encStop
  interval_cases i <;> simp only [BitVec.getLsbD_append, BitVec.getLsbD_extractLsb'] <;> simp

/-- The opcode and the feature bits D and E of R81. -/
theorem encRR_de (op : BitVec 11) (b a t : BitVec 7) : encRR op b a t &&& 0xFFEC0000#32 =
    op ++ (b &&& 0b0110000#7) ++ 0#14 := by
  apply BitVec.eq_of_getLsbD_eq
  intro i hi
  unfold encRR
  interval_cases i <;> simp only [BitVec.getLsbD_append, BitVec.getLsbD_and] <;> simp

/-- The opcode and the feature bit C of R81. -/
theorem encRR_sync (op : BitVec 11) (b a t : BitVec 7) : encRR op b a t &&& 0xFFF00000#32 =
    op ++ (b &&& 0b1000000#7) ++ 0#14 := by
  apply BitVec.eq_of_getLsbD_eq
  intro i hi
  unfold encRR
  interval_cases i <;> simp only [BitVec.getLsbD_append, BitVec.getLsbD_and] <;> simp

/-! ## Operands with ignored low bits (R71): their field and zeros are the operand with those bits cleared -/

theorem toNat_clearLow {n : Nat} (k : Nat) (v : BitVec n) : (clearLow k v).toNat = v.toNat / 2 ^ k * 2 ^ k := by
  unfold clearLow
  rw [BitVec.toNat_shiftLeft, BitVec.toNat_ushiftRight, Nat.shiftLeft_eq, Nat.shiftRight_eq_div_pow, Nat.mod_eq_of_lt]
  exact Nat.lt_of_le_of_lt (Nat.div_mul_le_self _ _) v.isLt

/-- The field of an operand of `m + k` bits, and `k` zeros. -/
theorem field_append_zeros {m k : Nat} (v : BitVec (m + k)) : v.extractLsb' k m ++ 0#k = clearLow k v := by
  apply BitVec.eq_of_toNat_eq
  rw [toNat_clearLow, BitVec.toNat_append, BitVec.extractLsb'_toNat, Nat.shiftRight_eq_div_pow, BitVec.toNat_ofNat,
    Nat.zero_mod, Nat.or_zero, Nat.shiftLeft_eq, Nat.mod_eq_of_lt]
  rw [Nat.div_lt_iff_lt_mul (Nat.two_pow_pos k), ← Nat.pow_add]
  exact v.isLt

theorem field_s14 (v : BitVec 14) : v.extractLsb' 4 10 ++ 0#4 = clearLow 4 v :=
  field_append_zeros (m := 10) (k := 4) v

theorem field_s18 (v : BitVec 18) : v.extractLsb' 2 16 ++ 0#2 = clearLow 2 v :=
  field_append_zeros (m := 16) (k := 2) v

theorem field_s11 (v : BitVec 11) : v.extractLsb' 2 9 ++ 0#2 = clearLow 2 v :=
  field_append_zeros (m := 9) (k := 2) v

end Sys2Proof
end

