-- ==== Sys2Proof/Laws/Memory.lean ====
section
/-! SUPPORT. Sys2Proof/Laws/Memory.lean: a read after a write, and the canonical form, which every operation on memory
keeps. -/

namespace Sys2Proof.Machine

/-! ## Read after write -/

theorem Memory.listed_insert (m : Memory) (a : Nat) (v : Byte) (b : Nat) :
    Memory.listed (Memory.insert m a v) b = if b = a then some v else Memory.listed m b := by
  induction m with
  | nil => simp [Memory.insert, Memory.listed]
  | cons c m ih =>
    obtain ⟨d, w⟩ := c
    unfold Memory.insert
    split
    · simp [Memory.listed]
    · split
      · next h => subst h; by_cases hb : b = a <;> simp [Memory.listed, hb]
      · next h => by_cases hb : b = d
                  · subst hb; simp [Memory.listed, Ne.symm h]
                  · simp [Memory.listed, hb, ih]

theorem Memory.listed_erase (m : Memory) (a b : Nat) :
    Memory.listed (Memory.erase m a) b = if b = a then none else Memory.listed m b := by
  induction m with
  | nil => simp [Memory.erase, Memory.listed]
  | cons c m ih =>
    obtain ⟨d, w⟩ := c
    unfold Memory.erase
    split
    · next h => subst h; rw [ih]; by_cases hb : b = a <;> simp [Memory.listed, hb]
    · next h => by_cases hb : b = d
                · subst hb; simp [Memory.listed, Ne.symm h]
                · simp [Memory.listed, hb, ih]

/-- A byte after a byte was written: the value written, or what was there. -/
theorem Memory.read_write (m : Memory) (a : Nat) (v : Byte) (b : Nat) :
    Memory.read (Memory.write m a v) b = if b = a then some v else Memory.read m b := by
  unfold Memory.read Memory.write
  by_cases hu : Memory.unlisted a = some v
  · simp only [hu, if_true, Memory.listed_erase]
    by_cases hb : b = a
    · subst hb; simp [hu]
    · simp [hb]
  · simp only [hu, if_false, Memory.listed_insert]
    by_cases hb : b = a <;> simp [hb]

/-- A byte after bytes were written. -/
theorem Memory.read_writeBytes (m : Memory) (a : Nat) (vs : List Byte) (b : Nat) :
    Memory.read (Memory.writeBytes m a vs) b =
      if a ≤ b ∧ b < a + vs.length then vs[b - a]? else Memory.read m b := by
  induction vs generalizing m a with
  | nil =>
    have h : ¬ (a ≤ b ∧ b < a + ([] : List Byte).length) := by
      rintro ⟨h1, h2⟩
      exact absurd (show b < a from h2) (Nat.not_lt.2 h1)
    rw [if_neg h, Memory.writeBytes]
  | cons v vs ih =>
    rw [Memory.writeBytes, ih, Memory.read_write]
    by_cases hb : b = a
    · subst hb
      rw [if_neg (by omega), if_pos rfl, if_pos (by simp)]
      simp
    · by_cases h1 : a + 1 ≤ b ∧ b < a + 1 + vs.length
      · have h2 : a ≤ b ∧ b < a + (v :: vs).length := by simp; omega
        have h3 : b - a = (b - (a + 1)) + 1 := by omega
        rw [if_pos h1, if_pos h2, h3, List.getElem?_cons_succ]
      · have h2 : ¬ (a ≤ b ∧ b < a + (v :: vs).length) := by simp; omega
        rw [if_neg h1, if_neg h2, if_neg hb]

/-- What `MemWrite` leaves (R53): the bytes of the quadword, and every other byte as it was. -/
theorem Memory.read_storeQuad (m : Memory) (a : Nat) (v : Quad) (b : Nat) :
    Memory.read (Memory.storeQuad m a v) b =
      if a ≤ b ∧ b < a + 16 then some (byteOf v (b - a)) else Memory.read m b := by
  rw [Memory.storeQuad, Memory.read_writeBytes]
  have hl : (quadBytes v).length = 16 := by simp [quadBytes]
  rw [hl]
  by_cases h : a ≤ b ∧ b < a + 16
  · rw [if_pos h, if_pos h]
    have h1 : b - a < 16 := by omega
    simp [quadBytes, h1]
  · rw [if_neg h, if_neg h]

/-- What `MemRead` answers (R52): the byte at offset `k` becomes byte element `k`. -/
theorem byteOf_loadQuad (m : Memory) (a : Nat) {k : Nat} (h : k < 16) :
    byteOf (Memory.loadQuad m a) k = Memory.byte m (a + k) := byteOf_ofBytes _ h

/-- A load from where a quadword was just stored gives it back (R59). -/
theorem Memory.loadQuad_storeQuad (m : Memory) (a : Nat) (v : Quad) :
    Memory.loadQuad (Memory.storeQuad m a v) a = v := by
  apply quad_ext_byte
  intro k hk
  rw [byteOf_loadQuad _ _ hk, Memory.byte, Memory.read_storeQuad, if_pos (by omega)]
  simp

/-! ## The canonical form -/

theorem rising_cons {a : Nat} {l : List Nat} : rising (a :: l) = true ↔ (∀ b ∈ l, a < b) ∧ rising l = true := by
  induction l generalizing a with
  | nil => simp [rising]
  | cons b l ih =>
    simp only [rising, Bool.and_eq_true, decide_eq_true_eq, List.mem_cons, forall_eq_or_imp]
    constructor
    · rintro ⟨h, hr⟩
      exact ⟨⟨h, fun c hc => Nat.lt_trans h ((ih.1 hr).1 c hc)⟩, hr⟩
    · rintro ⟨⟨h, -⟩, hr⟩
      exact ⟨h, hr⟩

/-- Membership in the canonical form, spelled out. -/
theorem Memory.wf_iff (m : Memory) : Memory.wf m = true ↔
    rising (m.map (·.1)) = true ∧ ∀ c ∈ m, c.1 < Config.lsSize ∧ Memory.unlisted c.1 ≠ some c.2 := by
  simp [Memory.wf]

theorem Memory.mem_insert {m : Memory} {a : Nat} {v : Byte} {c : Host.Cell} (h : c ∈ Memory.insert m a v) :
    c = (a, v) ∨ c ∈ m := by
  induction m with
  | nil => simpa [Memory.insert] using h
  | cons d m ih =>
    obtain ⟨b, w⟩ := d
    unfold Memory.insert at h
    split at h
    · simpa using h
    · split at h
      · simp only [List.mem_cons] at h ⊢
        rcases h with h | h
        · exact .inl h
        · exact .inr (.inr h)
      · simp only [List.mem_cons] at h ⊢
        rcases h with h | h
        · exact .inr (.inl h)
        · rcases ih h with h | h
          · exact .inl h
          · exact .inr (.inr h)

theorem Memory.mem_erase {m : Memory} {a : Nat} {c : Host.Cell} (h : c ∈ Memory.erase m a) : c ∈ m := by
  induction m with
  | nil => simp [Memory.erase] at h
  | cons d m ih =>
    obtain ⟨b, w⟩ := d
    unfold Memory.erase at h
    split at h
    · exact List.mem_cons_of_mem _ (ih h)
    · simp only [List.mem_cons] at h ⊢
      rcases h with h | h
      · exact .inl h
      · exact .inr (ih h)

theorem Memory.rising_insert {m : Memory} (a : Nat) (v : Byte) (h : rising (m.map (·.1)) = true) :
    rising ((Memory.insert m a v).map (·.1)) = true := by
  induction m with
  | nil => simp [Memory.insert, rising]
  | cons d m ih =>
    obtain ⟨b, w⟩ := d
    simp only [List.map_cons, rising_cons] at h
    unfold Memory.insert
    split
    · next hab =>
      simp only [List.map_cons, rising_cons, List.mem_cons, forall_eq_or_imp]
      exact ⟨⟨hab, fun c hc => Nat.lt_trans hab (h.1 c hc)⟩, h⟩
    · split
      · next hab => subst hab; simpa only [List.map_cons, rising_cons] using h
      · simp only [List.map_cons, rising_cons]
        refine ⟨?_, ih h.2⟩
        intro x hx
        obtain ⟨c, hc, rfl⟩ := List.mem_map.1 hx
        rcases Memory.mem_insert hc with rfl | hc
        · simp only; omega
        · exact h.1 _ (List.mem_map.2 ⟨c, hc, rfl⟩)

theorem Memory.rising_erase {m : Memory} (a : Nat) (h : rising (m.map (·.1)) = true) :
    rising ((Memory.erase m a).map (·.1)) = true := by
  induction m with
  | nil => simp [Memory.erase, rising]
  | cons d m ih =>
    obtain ⟨b, w⟩ := d
    simp only [List.map_cons, rising_cons] at h
    unfold Memory.erase
    split
    · exact ih h.2
    · simp only [List.map_cons, rising_cons]
      refine ⟨?_, ih h.2⟩
      intro x hx
      obtain ⟨c, hc, rfl⟩ := List.mem_map.1 hx
      exact h.1 _ (List.mem_map.2 ⟨c, Memory.mem_erase hc, rfl⟩)

/-- Writing a byte inside local storage keeps the canonical form. -/
theorem Memory.wf_write {m : Memory} {a : Nat} (v : Byte) (ha : a < Config.lsSize) (h : Memory.wf m = true) :
    Memory.wf (Memory.write m a v) = true := by
  rw [Memory.wf_iff] at h ⊢
  unfold Memory.write
  split
  · exact ⟨Memory.rising_erase a h.1, fun c hc => h.2 c (Memory.mem_erase hc)⟩
  · next hu =>
    refine ⟨Memory.rising_insert a v h.1, fun c hc => ?_⟩
    rcases Memory.mem_insert hc with rfl | hc
    · exact ⟨ha, hu⟩
    · exact h.2 c hc

/-- Writing bytes inside local storage keeps the canonical form. -/
theorem Memory.wf_writeBytes {m : Memory} {a : Nat} {vs : List Byte} (ha : a + vs.length ≤ Config.lsSize)
    (h : Memory.wf m = true) : Memory.wf (Memory.writeBytes m a vs) = true := by
  induction vs generalizing m a with
  | nil => simpa [Memory.writeBytes] using h
  | cons v vs ih =>
    simp only [List.length_cons] at ha
    rw [Memory.writeBytes]
    exact ih (by omega) (Memory.wf_write v (by omega) h)

/-- `LSA` (R51) in numbers: modulo LS_SIZE and down to a multiple of 16. -/
theorem lsa_eq (ea : Word) : lsa ea = ea.toNat % Config.lsSize / 16 * 16 := by
  unfold lsa
  rw [BitVec.and_assoc, BitVec.toNat_and]
  exact and_ones_over_zeros ea.toNat 4 14

theorem lsa_aligned (ea : Word) : lsa ea % 16 = 0 := by rw [lsa_eq]; omega

theorem lsa_in_range (ea : Word) : lsa ea + 16 ≤ Config.lsSize := by
  rw [lsa_eq]; unfold Config.lsSize; omega

/-- A store keeps the canonical form. -/
theorem Memory.wf_storeQuad {m : Memory} (ea : Word) (v : Quad) (h : Memory.wf m = true) :
    Memory.wf (Memory.storeQuad m (lsa ea) v) = true := by
  refine Memory.wf_writeBytes ?_ h
  have := lsa_in_range ea
  simpa [quadBytes] using this

/-! ## Dirty -/

theorem mem_insertRising {l : List Nat} {a b : Nat} : b ∈ insertRising l a ↔ b = a ∨ b ∈ l := by
  induction l with
  | nil => simp [insertRising]
  | cons c l ih =>
    unfold insertRising
    split
    · simp
    · split
      · next h => subst h; simp
      · simp only [List.mem_cons, ih]
        constructor
        · rintro (h | h | h)
          · exact .inr (.inl h)
          · exact .inl h
          · exact .inr (.inr h)
        · rintro (h | h | h)
          · exact .inr (.inl h)
          · exact .inl h
          · exact .inr (.inr h)

theorem rising_insertRising {l : List Nat} (a : Nat) (h : rising l = true) : rising (insertRising l a) = true := by
  induction l with
  | nil => simp [insertRising, rising]
  | cons c l ih =>
    rw [rising_cons] at h
    unfold insertRising
    split
    · next hac =>
      simp only [rising_cons, List.mem_cons, forall_eq_or_imp]
      exact ⟨⟨hac, fun b hb => Nat.lt_trans hac (h.1 b hb)⟩, h⟩
    · split
      · exact rising_cons.2 h
      · rw [rising_cons]
        refine ⟨fun b hb => ?_, ih h.2⟩
        rcases mem_insertRising.1 hb with rfl | hb
        · omega
        · exact h.1 b hb

end Sys2Proof.Machine
end

