-- ==== Sys2Proof/Laws/State.lean ====
section
/-! SUPPORT. Sys2Proof/Laws/State.lean: what each update of the state does to each field, and what a register reads after each
update. -/

namespace Sys2Proof.Machine

@[simp] theorem State.setReg_regs (s : State) (r : Reg) (v : Quad) : (s.setReg r v).regs = s.regs.set r.toNat v r.isLt := rfl
@[simp] theorem State.setReg_pc (s : State) (r : Reg) (v : Quad) : (s.setReg r v).pc = s.pc := rfl
@[simp] theorem State.setReg_ie (s : State) (r : Reg) (v : Quad) : (s.setReg r v).ie = s.ie := rfl
@[simp] theorem State.setReg_srr0 (s : State) (r : Reg) (v : Quad) : (s.setReg r v).srr0 = s.srr0 := rfl
@[simp] theorem State.setReg_fpscr (s : State) (r : Reg) (v : Quad) : (s.setReg r v).fpscr = s.fpscr := rfl
@[simp] theorem State.setReg_sprs (s : State) (r : Reg) (v : Quad) : (s.setReg r v).sprs = s.sprs := rfl
@[simp] theorem State.setReg_npc (s : State) (r : Reg) (v : Quad) : (s.setReg r v).npc = s.npc := rfl
@[simp] theorem State.setReg_statusCode (s : State) (r : Reg) (v : Quad) : (s.setReg r v).statusCode = s.statusCode := rfl
@[simp] theorem State.setReg_ls (s : State) (r : Reg) (v : Quad) : (s.setReg r v).ls = s.ls := rfl
@[simp] theorem State.setReg_dirty (s : State) (r : Reg) (v : Quad) : (s.setReg r v).dirty = s.dirty := rfl
@[simp] theorem State.setReg_run (s : State) (r : Reg) (v : Quad) : (s.setReg r v).run = s.run := rfl
@[simp] theorem State.setReg_stalled (s : State) (r : Reg) (v : Quad) : (s.setReg r v).stalled = s.stalled := rfl
@[simp] theorem State.setReg_trace (s : State) (r : Reg) (v : Quad) : (s.setReg r v).trace = s.trace := rfl
@[simp] theorem State.setReg_script (s : State) (r : Reg) (v : Quad) : (s.setReg r v).script = s.script := rfl
@[simp] theorem State.setReg_now (s : State) (r : Reg) (v : Quad) : (s.setReg r v).now = s.now := rfl

@[simp] theorem State.advance_regs (s : State) : s.advance.regs = s.regs := rfl
@[simp] theorem State.advance_pc (s : State) : s.advance.pc = normPc (s.pc + 4#32) := rfl
@[simp] theorem State.advance_ie (s : State) : s.advance.ie = s.ie := rfl
@[simp] theorem State.advance_srr0 (s : State) : s.advance.srr0 = s.srr0 := rfl
@[simp] theorem State.advance_fpscr (s : State) : s.advance.fpscr = s.fpscr := rfl
@[simp] theorem State.advance_sprs (s : State) : s.advance.sprs = s.sprs := rfl
@[simp] theorem State.advance_npc (s : State) : s.advance.npc = s.npc := rfl
@[simp] theorem State.advance_statusCode (s : State) : s.advance.statusCode = s.statusCode := rfl
@[simp] theorem State.advance_ls (s : State) : s.advance.ls = s.ls := rfl
@[simp] theorem State.advance_dirty (s : State) : s.advance.dirty = s.dirty := rfl
@[simp] theorem State.advance_run (s : State) : s.advance.run = s.run := rfl
@[simp] theorem State.advance_stalled (s : State) : s.advance.stalled = s.stalled := rfl
@[simp] theorem State.advance_trace (s : State) : s.advance.trace = s.trace := rfl
@[simp] theorem State.advance_script (s : State) : s.advance.script = s.script := rfl
@[simp] theorem State.advance_now (s : State) : s.advance.now = s.now := rfl

@[simp] theorem State.goto_regs (s : State) (a : Word) : (s.goto a).regs = s.regs := rfl
@[simp] theorem State.goto_pc (s : State) (a : Word) : (s.goto a).pc = normPc a := rfl
@[simp] theorem State.goto_ie (s : State) (a : Word) : (s.goto a).ie = s.ie := rfl
@[simp] theorem State.goto_srr0 (s : State) (a : Word) : (s.goto a).srr0 = s.srr0 := rfl
@[simp] theorem State.goto_fpscr (s : State) (a : Word) : (s.goto a).fpscr = s.fpscr := rfl
@[simp] theorem State.goto_sprs (s : State) (a : Word) : (s.goto a).sprs = s.sprs := rfl
@[simp] theorem State.goto_npc (s : State) (a : Word) : (s.goto a).npc = s.npc := rfl
@[simp] theorem State.goto_statusCode (s : State) (a : Word) : (s.goto a).statusCode = s.statusCode := rfl
@[simp] theorem State.goto_ls (s : State) (a : Word) : (s.goto a).ls = s.ls := rfl
@[simp] theorem State.goto_dirty (s : State) (a : Word) : (s.goto a).dirty = s.dirty := rfl
@[simp] theorem State.goto_run (s : State) (a : Word) : (s.goto a).run = s.run := rfl
@[simp] theorem State.goto_stalled (s : State) (a : Word) : (s.goto a).stalled = s.stalled := rfl
@[simp] theorem State.goto_trace (s : State) (a : Word) : (s.goto a).trace = s.trace := rfl
@[simp] theorem State.goto_script (s : State) (a : Word) : (s.goto a).script = s.script := rfl
@[simp] theorem State.goto_now (s : State) (a : Word) : (s.goto a).now = s.now := rfl

@[simp] theorem State.retire_regs (s : State) (rt : Reg) (v : Quad) : (s.retire rt v).regs = s.regs.set rt.toNat v rt.isLt := rfl
@[simp] theorem State.retire_pc (s : State) (rt : Reg) (v : Quad) : (s.retire rt v).pc = normPc (s.pc + 4#32) := rfl
@[simp] theorem State.retire_ie (s : State) (rt : Reg) (v : Quad) : (s.retire rt v).ie = s.ie := rfl
@[simp] theorem State.retire_srr0 (s : State) (rt : Reg) (v : Quad) : (s.retire rt v).srr0 = s.srr0 := rfl
@[simp] theorem State.retire_fpscr (s : State) (rt : Reg) (v : Quad) : (s.retire rt v).fpscr = s.fpscr := rfl
@[simp] theorem State.retire_sprs (s : State) (rt : Reg) (v : Quad) : (s.retire rt v).sprs = s.sprs := rfl
@[simp] theorem State.retire_npc (s : State) (rt : Reg) (v : Quad) : (s.retire rt v).npc = s.npc := rfl
@[simp] theorem State.retire_statusCode (s : State) (rt : Reg) (v : Quad) : (s.retire rt v).statusCode = s.statusCode := rfl
@[simp] theorem State.retire_ls (s : State) (rt : Reg) (v : Quad) : (s.retire rt v).ls = s.ls := rfl
@[simp] theorem State.retire_dirty (s : State) (rt : Reg) (v : Quad) : (s.retire rt v).dirty = s.dirty := rfl
@[simp] theorem State.retire_run (s : State) (rt : Reg) (v : Quad) : (s.retire rt v).run = s.run := rfl
@[simp] theorem State.retire_stalled (s : State) (rt : Reg) (v : Quad) : (s.retire rt v).stalled = s.stalled := rfl
@[simp] theorem State.retire_trace (s : State) (rt : Reg) (v : Quad) : (s.retire rt v).trace = s.trace := rfl
@[simp] theorem State.retire_script (s : State) (rt : Reg) (v : Quad) : (s.retire rt v).script = s.script := rfl
@[simp] theorem State.retire_now (s : State) (rt : Reg) (v : Quad) : (s.retire rt v).now = s.now := rfl

@[simp] theorem State.setIe_regs (s : State) (b : Bool) : (s.setIe b).regs = s.regs := rfl
@[simp] theorem State.setIe_pc (s : State) (b : Bool) : (s.setIe b).pc = s.pc := rfl
@[simp] theorem State.setIe_ie (s : State) (b : Bool) : (s.setIe b).ie = b := rfl
@[simp] theorem State.setIe_srr0 (s : State) (b : Bool) : (s.setIe b).srr0 = s.srr0 := rfl
@[simp] theorem State.setIe_fpscr (s : State) (b : Bool) : (s.setIe b).fpscr = s.fpscr := rfl
@[simp] theorem State.setIe_sprs (s : State) (b : Bool) : (s.setIe b).sprs = s.sprs := rfl
@[simp] theorem State.setIe_npc (s : State) (b : Bool) : (s.setIe b).npc = s.npc := rfl
@[simp] theorem State.setIe_statusCode (s : State) (b : Bool) : (s.setIe b).statusCode = s.statusCode := rfl
@[simp] theorem State.setIe_ls (s : State) (b : Bool) : (s.setIe b).ls = s.ls := rfl
@[simp] theorem State.setIe_dirty (s : State) (b : Bool) : (s.setIe b).dirty = s.dirty := rfl
@[simp] theorem State.setIe_run (s : State) (b : Bool) : (s.setIe b).run = s.run := rfl
@[simp] theorem State.setIe_stalled (s : State) (b : Bool) : (s.setIe b).stalled = s.stalled := rfl
@[simp] theorem State.setIe_trace (s : State) (b : Bool) : (s.setIe b).trace = s.trace := rfl
@[simp] theorem State.setIe_script (s : State) (b : Bool) : (s.setIe b).script = s.script := rfl
@[simp] theorem State.setIe_now (s : State) (b : Bool) : (s.setIe b).now = s.now := rfl

@[simp] theorem State.store_regs (s : State) (ea : Word) (v : Quad) : (s.store ea v).regs = s.regs := rfl
@[simp] theorem State.store_pc (s : State) (ea : Word) (v : Quad) : (s.store ea v).pc = s.pc := rfl
@[simp] theorem State.store_ie (s : State) (ea : Word) (v : Quad) : (s.store ea v).ie = s.ie := rfl
@[simp] theorem State.store_srr0 (s : State) (ea : Word) (v : Quad) : (s.store ea v).srr0 = s.srr0 := rfl
@[simp] theorem State.store_fpscr (s : State) (ea : Word) (v : Quad) : (s.store ea v).fpscr = s.fpscr := rfl
@[simp] theorem State.store_sprs (s : State) (ea : Word) (v : Quad) : (s.store ea v).sprs = s.sprs := rfl
@[simp] theorem State.store_npc (s : State) (ea : Word) (v : Quad) : (s.store ea v).npc = s.npc := rfl
@[simp] theorem State.store_statusCode (s : State) (ea : Word) (v : Quad) : (s.store ea v).statusCode = s.statusCode := rfl
@[simp] theorem State.store_ls (s : State) (ea : Word) (v : Quad) : (s.store ea v).ls = Memory.storeQuad s.ls (lsa ea) v := rfl
@[simp] theorem State.store_dirty (s : State) (ea : Word) (v : Quad) : (s.store ea v).dirty = insertRising s.dirty (lsa ea) := rfl
@[simp] theorem State.store_run (s : State) (ea : Word) (v : Quad) : (s.store ea v).run = s.run := rfl
@[simp] theorem State.store_stalled (s : State) (ea : Word) (v : Quad) : (s.store ea v).stalled = s.stalled := rfl
@[simp] theorem State.store_trace (s : State) (ea : Word) (v : Quad) : (s.store ea v).trace = s.trace := rfl
@[simp] theorem State.store_script (s : State) (ea : Word) (v : Quad) : (s.store ea v).script = s.script := rfl
@[simp] theorem State.store_now (s : State) (ea : Word) (v : Quad) : (s.store ea v).now = s.now := rfl

@[simp] theorem State.clearDirty_regs (s : State) : s.clearDirty.regs = s.regs := rfl
@[simp] theorem State.clearDirty_pc (s : State) : s.clearDirty.pc = s.pc := rfl
@[simp] theorem State.clearDirty_ie (s : State) : s.clearDirty.ie = s.ie := rfl
@[simp] theorem State.clearDirty_srr0 (s : State) : s.clearDirty.srr0 = s.srr0 := rfl
@[simp] theorem State.clearDirty_fpscr (s : State) : s.clearDirty.fpscr = s.fpscr := rfl
@[simp] theorem State.clearDirty_sprs (s : State) : s.clearDirty.sprs = s.sprs := rfl
@[simp] theorem State.clearDirty_npc (s : State) : s.clearDirty.npc = s.npc := rfl
@[simp] theorem State.clearDirty_statusCode (s : State) : s.clearDirty.statusCode = s.statusCode := rfl
@[simp] theorem State.clearDirty_ls (s : State) : s.clearDirty.ls = s.ls := rfl
@[simp] theorem State.clearDirty_dirty (s : State) : s.clearDirty.dirty = [] := rfl
@[simp] theorem State.clearDirty_run (s : State) : s.clearDirty.run = s.run := rfl
@[simp] theorem State.clearDirty_stalled (s : State) : s.clearDirty.stalled = s.stalled := rfl
@[simp] theorem State.clearDirty_trace (s : State) : s.clearDirty.trace = s.trace := rfl
@[simp] theorem State.clearDirty_script (s : State) : s.clearDirty.script = s.script := rfl
@[simp] theorem State.clearDirty_now (s : State) : s.clearDirty.now = s.now := rfl

@[simp] theorem State.emit_regs (s : State) (e : Config.Event) : (s.emit e).regs = s.regs := rfl
@[simp] theorem State.emit_pc (s : State) (e : Config.Event) : (s.emit e).pc = s.pc := rfl
@[simp] theorem State.emit_ie (s : State) (e : Config.Event) : (s.emit e).ie = s.ie := rfl
@[simp] theorem State.emit_srr0 (s : State) (e : Config.Event) : (s.emit e).srr0 = s.srr0 := rfl
@[simp] theorem State.emit_fpscr (s : State) (e : Config.Event) : (s.emit e).fpscr = s.fpscr := rfl
@[simp] theorem State.emit_sprs (s : State) (e : Config.Event) : (s.emit e).sprs = s.sprs := rfl
@[simp] theorem State.emit_npc (s : State) (e : Config.Event) : (s.emit e).npc = s.npc := rfl
@[simp] theorem State.emit_statusCode (s : State) (e : Config.Event) : (s.emit e).statusCode = s.statusCode := rfl
@[simp] theorem State.emit_ls (s : State) (e : Config.Event) : (s.emit e).ls = s.ls := rfl
@[simp] theorem State.emit_dirty (s : State) (e : Config.Event) : (s.emit e).dirty = s.dirty := rfl
@[simp] theorem State.emit_run (s : State) (e : Config.Event) : (s.emit e).run = s.run := rfl
@[simp] theorem State.emit_stalled (s : State) (e : Config.Event) : (s.emit e).stalled = s.stalled := rfl
@[simp] theorem State.emit_trace (s : State) (e : Config.Event) : (s.emit e).trace = s.trace ++ [e] := rfl
@[simp] theorem State.emit_script (s : State) (e : Config.Event) : (s.emit e).script = s.script := rfl
@[simp] theorem State.emit_now (s : State) (e : Config.Event) : (s.emit e).now = s.now := rfl

@[simp] theorem State.setStalled_regs (s : State) (b : Bool) : (s.setStalled b).regs = s.regs := rfl
@[simp] theorem State.setStalled_pc (s : State) (b : Bool) : (s.setStalled b).pc = s.pc := rfl
@[simp] theorem State.setStalled_ie (s : State) (b : Bool) : (s.setStalled b).ie = s.ie := rfl
@[simp] theorem State.setStalled_srr0 (s : State) (b : Bool) : (s.setStalled b).srr0 = s.srr0 := rfl
@[simp] theorem State.setStalled_fpscr (s : State) (b : Bool) : (s.setStalled b).fpscr = s.fpscr := rfl
@[simp] theorem State.setStalled_sprs (s : State) (b : Bool) : (s.setStalled b).sprs = s.sprs := rfl
@[simp] theorem State.setStalled_npc (s : State) (b : Bool) : (s.setStalled b).npc = s.npc := rfl
@[simp] theorem State.setStalled_statusCode (s : State) (b : Bool) : (s.setStalled b).statusCode = s.statusCode := rfl
@[simp] theorem State.setStalled_ls (s : State) (b : Bool) : (s.setStalled b).ls = s.ls := rfl
@[simp] theorem State.setStalled_dirty (s : State) (b : Bool) : (s.setStalled b).dirty = s.dirty := rfl
@[simp] theorem State.setStalled_run (s : State) (b : Bool) : (s.setStalled b).run = s.run := rfl
@[simp] theorem State.setStalled_stalled (s : State) (b : Bool) : (s.setStalled b).stalled = b := rfl
@[simp] theorem State.setStalled_trace (s : State) (b : Bool) : (s.setStalled b).trace = s.trace := rfl
@[simp] theorem State.setStalled_script (s : State) (b : Bool) : (s.setStalled b).script = s.script := rfl
@[simp] theorem State.setStalled_now (s : State) (b : Bool) : (s.setStalled b).now = s.now := rfl

@[simp] theorem State.setSpr_regs (s : State) (n : SprNum) (v : Word) : (s.setSpr n v).regs = s.regs := rfl
@[simp] theorem State.setSpr_pc (s : State) (n : SprNum) (v : Word) : (s.setSpr n v).pc = s.pc := rfl
@[simp] theorem State.setSpr_ie (s : State) (n : SprNum) (v : Word) : (s.setSpr n v).ie = s.ie := rfl
@[simp] theorem State.setSpr_srr0 (s : State) (n : SprNum) (v : Word) : (s.setSpr n v).srr0 = s.srr0 := rfl
@[simp] theorem State.setSpr_fpscr (s : State) (n : SprNum) (v : Word) : (s.setSpr n v).fpscr = s.fpscr := rfl
@[simp] theorem State.setSpr_sprs (s : State) (n : SprNum) (v : Word) : (s.setSpr n v).sprs = s.sprs.set n.toNat (some v) n.isLt := rfl
@[simp] theorem State.setSpr_npc (s : State) (n : SprNum) (v : Word) : (s.setSpr n v).npc = s.npc := rfl
@[simp] theorem State.setSpr_statusCode (s : State) (n : SprNum) (v : Word) : (s.setSpr n v).statusCode = s.statusCode := rfl
@[simp] theorem State.setSpr_ls (s : State) (n : SprNum) (v : Word) : (s.setSpr n v).ls = s.ls := rfl
@[simp] theorem State.setSpr_dirty (s : State) (n : SprNum) (v : Word) : (s.setSpr n v).dirty = s.dirty := rfl
@[simp] theorem State.setSpr_run (s : State) (n : SprNum) (v : Word) : (s.setSpr n v).run = s.run := rfl
@[simp] theorem State.setSpr_stalled (s : State) (n : SprNum) (v : Word) : (s.setSpr n v).stalled = s.stalled := rfl
@[simp] theorem State.setSpr_trace (s : State) (n : SprNum) (v : Word) : (s.setSpr n v).trace = s.trace := rfl
@[simp] theorem State.setSpr_script (s : State) (n : SprNum) (v : Word) : (s.setSpr n v).script = s.script := rfl
@[simp] theorem State.setSpr_now (s : State) (n : SprNum) (v : Word) : (s.setSpr n v).now = s.now := rfl

@[simp] theorem State.stopAndSignal_regs (s : State) (c : BitVec 14) : (s.stopAndSignal c).regs = s.regs := rfl
@[simp] theorem State.stopAndSignal_pc (s : State) (c : BitVec 14) : (s.stopAndSignal c).pc = s.pc := rfl
@[simp] theorem State.stopAndSignal_ie (s : State) (c : BitVec 14) : (s.stopAndSignal c).ie = s.ie := rfl
@[simp] theorem State.stopAndSignal_srr0 (s : State) (c : BitVec 14) : (s.stopAndSignal c).srr0 = s.srr0 := rfl
@[simp] theorem State.stopAndSignal_fpscr (s : State) (c : BitVec 14) : (s.stopAndSignal c).fpscr = s.fpscr := rfl
@[simp] theorem State.stopAndSignal_sprs (s : State) (c : BitVec 14) : (s.stopAndSignal c).sprs = s.sprs := rfl
@[simp] theorem State.stopAndSignal_npc (s : State) (c : BitVec 14) : (s.stopAndSignal c).npc = s.npcValue := rfl
@[simp] theorem State.stopAndSignal_statusCode (s : State) (c : BitVec 14) : (s.stopAndSignal c).statusCode = c := rfl
@[simp] theorem State.stopAndSignal_ls (s : State) (c : BitVec 14) : (s.stopAndSignal c).ls = s.ls := rfl
@[simp] theorem State.stopAndSignal_dirty (s : State) (c : BitVec 14) : (s.stopAndSignal c).dirty = s.dirty := rfl
@[simp] theorem State.stopAndSignal_run (s : State) (c : BitVec 14) : (s.stopAndSignal c).run = .stopped := rfl
@[simp] theorem State.stopAndSignal_stalled (s : State) (c : BitVec 14) : (s.stopAndSignal c).stalled = s.stalled := rfl
@[simp] theorem State.stopAndSignal_trace (s : State) (c : BitVec 14) : (s.stopAndSignal c).trace = s.trace ++ [.stopAndSignal c s.npcValue] := rfl
@[simp] theorem State.stopAndSignal_script (s : State) (c : BitVec 14) : (s.stopAndSignal c).script = s.script := rfl
@[simp] theorem State.stopAndSignal_now (s : State) (c : BitVec 14) : (s.stopAndSignal c).now = s.now := rfl

@[simp] theorem State.halt_regs (s : State) : s.halt.regs = s.regs := rfl
@[simp] theorem State.halt_pc (s : State) : s.halt.pc = s.pc := rfl
@[simp] theorem State.halt_ie (s : State) : s.halt.ie = s.ie := rfl
@[simp] theorem State.halt_srr0 (s : State) : s.halt.srr0 = s.srr0 := rfl
@[simp] theorem State.halt_fpscr (s : State) : s.halt.fpscr = s.fpscr := rfl
@[simp] theorem State.halt_sprs (s : State) : s.halt.sprs = s.sprs := rfl
@[simp] theorem State.halt_npc (s : State) : s.halt.npc = s.npc := rfl
@[simp] theorem State.halt_statusCode (s : State) : s.halt.statusCode = s.statusCode := rfl
@[simp] theorem State.halt_ls (s : State) : s.halt.ls = s.ls := rfl
@[simp] theorem State.halt_dirty (s : State) : s.halt.dirty = s.dirty := rfl
@[simp] theorem State.halt_run (s : State) : s.halt.run = .halted := rfl
@[simp] theorem State.halt_stalled (s : State) : s.halt.stalled = s.stalled := rfl
@[simp] theorem State.halt_trace (s : State) : s.halt.trace = s.trace ++ [.halt s.pc] := rfl
@[simp] theorem State.halt_script (s : State) : s.halt.script = s.script := rfl
@[simp] theorem State.halt_now (s : State) : s.halt.now = s.now := rfl

@[simp] theorem State.takeInterrupt_regs (s : State) : s.takeInterrupt.regs = s.regs := rfl
@[simp] theorem State.takeInterrupt_pc (s : State) : s.takeInterrupt.pc = 0#32 := rfl
@[simp] theorem State.takeInterrupt_ie (s : State) : s.takeInterrupt.ie = false := rfl
@[simp] theorem State.takeInterrupt_srr0 (s : State) : s.takeInterrupt.srr0 = s.pc := rfl
@[simp] theorem State.takeInterrupt_fpscr (s : State) : s.takeInterrupt.fpscr = s.fpscr := rfl
@[simp] theorem State.takeInterrupt_sprs (s : State) : s.takeInterrupt.sprs = s.sprs := rfl
@[simp] theorem State.takeInterrupt_npc (s : State) : s.takeInterrupt.npc = s.npc := rfl
@[simp] theorem State.takeInterrupt_statusCode (s : State) : s.takeInterrupt.statusCode = s.statusCode := rfl
@[simp] theorem State.takeInterrupt_ls (s : State) : s.takeInterrupt.ls = s.ls := rfl
@[simp] theorem State.takeInterrupt_dirty (s : State) : s.takeInterrupt.dirty = s.dirty := rfl
@[simp] theorem State.takeInterrupt_run (s : State) : s.takeInterrupt.run = s.run := rfl
@[simp] theorem State.takeInterrupt_stalled (s : State) : s.takeInterrupt.stalled = s.stalled := rfl
@[simp] theorem State.takeInterrupt_trace (s : State) : s.takeInterrupt.trace = s.trace := rfl
@[simp] theorem State.takeInterrupt_script (s : State) : s.takeInterrupt.script = s.script := rfl
@[simp] theorem State.takeInterrupt_now (s : State) : s.takeInterrupt.now = s.now := rfl

@[simp] theorem State.returnFromInterrupt_regs (s : State) : s.returnFromInterrupt.regs = s.regs := rfl
@[simp] theorem State.returnFromInterrupt_pc (s : State) : s.returnFromInterrupt.pc = normPc s.srr0 := rfl
@[simp] theorem State.returnFromInterrupt_ie (s : State) : s.returnFromInterrupt.ie = s.ie := rfl
@[simp] theorem State.returnFromInterrupt_srr0 (s : State) : s.returnFromInterrupt.srr0 = s.srr0 := rfl
@[simp] theorem State.returnFromInterrupt_fpscr (s : State) : s.returnFromInterrupt.fpscr = s.fpscr := rfl
@[simp] theorem State.returnFromInterrupt_sprs (s : State) : s.returnFromInterrupt.sprs = s.sprs := rfl
@[simp] theorem State.returnFromInterrupt_npc (s : State) : s.returnFromInterrupt.npc = s.npc := rfl
@[simp] theorem State.returnFromInterrupt_statusCode (s : State) : s.returnFromInterrupt.statusCode = s.statusCode := rfl
@[simp] theorem State.returnFromInterrupt_ls (s : State) : s.returnFromInterrupt.ls = s.ls := rfl
@[simp] theorem State.returnFromInterrupt_dirty (s : State) : s.returnFromInterrupt.dirty = s.dirty := rfl
@[simp] theorem State.returnFromInterrupt_run (s : State) : s.returnFromInterrupt.run = s.run := rfl
@[simp] theorem State.returnFromInterrupt_stalled (s : State) : s.returnFromInterrupt.stalled = s.stalled := rfl
@[simp] theorem State.returnFromInterrupt_trace (s : State) : s.returnFromInterrupt.trace = s.trace := rfl
@[simp] theorem State.returnFromInterrupt_script (s : State) : s.returnFromInterrupt.script = s.script := rfl
@[simp] theorem State.returnFromInterrupt_now (s : State) : s.returnFromInterrupt.now = s.now := rfl

@[simp] theorem State.tick_regs (s : State) : s.tick.regs = s.regs := rfl
@[simp] theorem State.tick_pc (s : State) : s.tick.pc = s.pc := rfl
@[simp] theorem State.tick_ie (s : State) : s.tick.ie = s.ie := rfl
@[simp] theorem State.tick_srr0 (s : State) : s.tick.srr0 = s.srr0 := rfl
@[simp] theorem State.tick_fpscr (s : State) : s.tick.fpscr = s.fpscr := rfl
@[simp] theorem State.tick_sprs (s : State) : s.tick.sprs = s.sprs := rfl
@[simp] theorem State.tick_npc (s : State) : s.tick.npc = s.npc := rfl
@[simp] theorem State.tick_statusCode (s : State) : s.tick.statusCode = s.statusCode := rfl
@[simp] theorem State.tick_ls (s : State) : s.tick.ls = s.ls := rfl
@[simp] theorem State.tick_dirty (s : State) : s.tick.dirty = s.dirty := rfl
@[simp] theorem State.tick_run (s : State) : s.tick.run = s.run := rfl
@[simp] theorem State.tick_stalled (s : State) : s.tick.stalled = s.stalled := rfl
@[simp] theorem State.tick_trace (s : State) : s.tick.trace = s.trace := rfl
@[simp] theorem State.tick_script (s : State) : s.tick.script = s.script.tail := rfl
@[simp] theorem State.tick_now (s : State) : s.tick.now = s.now + 1 := rfl

@[simp] theorem State.setFpscr_regs (s : State) (v : Quad) : (s.setFpscr v).regs = s.regs := rfl
@[simp] theorem State.setFpscr_pc (s : State) (v : Quad) : (s.setFpscr v).pc = s.pc := rfl
@[simp] theorem State.setFpscr_ie (s : State) (v : Quad) : (s.setFpscr v).ie = s.ie := rfl
@[simp] theorem State.setFpscr_srr0 (s : State) (v : Quad) : (s.setFpscr v).srr0 = s.srr0 := rfl
@[simp] theorem State.setFpscr_fpscr (s : State) (v : Quad) : (s.setFpscr v).fpscr = v &&& Config.fpscrMask := rfl
@[simp] theorem State.setFpscr_sprs (s : State) (v : Quad) : (s.setFpscr v).sprs = s.sprs := rfl
@[simp] theorem State.setFpscr_npc (s : State) (v : Quad) : (s.setFpscr v).npc = s.npc := rfl
@[simp] theorem State.setFpscr_statusCode (s : State) (v : Quad) : (s.setFpscr v).statusCode = s.statusCode := rfl
@[simp] theorem State.setFpscr_ls (s : State) (v : Quad) : (s.setFpscr v).ls = s.ls := rfl
@[simp] theorem State.setFpscr_dirty (s : State) (v : Quad) : (s.setFpscr v).dirty = s.dirty := rfl
@[simp] theorem State.setFpscr_run (s : State) (v : Quad) : (s.setFpscr v).run = s.run := rfl
@[simp] theorem State.setFpscr_stalled (s : State) (v : Quad) : (s.setFpscr v).stalled = s.stalled := rfl
@[simp] theorem State.setFpscr_trace (s : State) (v : Quad) : (s.setFpscr v).trace = s.trace := rfl
@[simp] theorem State.setFpscr_script (s : State) (v : Quad) : (s.setFpscr v).script = s.script := rfl
@[simp] theorem State.setFpscr_now (s : State) (v : Quad) : (s.setFpscr v).now = s.now := rfl

@[simp] theorem State.fpRetire_regs (s : State) (op : Config.FpOp) (l : List Quad) (rt : Reg) (v : Quad) : (s.fpRetire op l rt v).regs = s.regs.set rt.toNat v rt.isLt := rfl
@[simp] theorem State.fpRetire_pc (s : State) (op : Config.FpOp) (l : List Quad) (rt : Reg) (v : Quad) : (s.fpRetire op l rt v).pc = normPc (s.pc + 4#32) := rfl
@[simp] theorem State.fpRetire_ie (s : State) (op : Config.FpOp) (l : List Quad) (rt : Reg) (v : Quad) : (s.fpRetire op l rt v).ie = s.ie := rfl
@[simp] theorem State.fpRetire_srr0 (s : State) (op : Config.FpOp) (l : List Quad) (rt : Reg) (v : Quad) : (s.fpRetire op l rt v).srr0 = s.srr0 := rfl
@[simp] theorem State.fpRetire_fpscr (s : State) (op : Config.FpOp) (l : List Quad) (rt : Reg) (v : Quad) : (s.fpRetire op l rt v).fpscr = s.fpscrNext op l := rfl
@[simp] theorem State.fpRetire_sprs (s : State) (op : Config.FpOp) (l : List Quad) (rt : Reg) (v : Quad) : (s.fpRetire op l rt v).sprs = s.sprs := rfl
@[simp] theorem State.fpRetire_npc (s : State) (op : Config.FpOp) (l : List Quad) (rt : Reg) (v : Quad) : (s.fpRetire op l rt v).npc = s.npc := rfl
@[simp] theorem State.fpRetire_statusCode (s : State) (op : Config.FpOp) (l : List Quad) (rt : Reg) (v : Quad) : (s.fpRetire op l rt v).statusCode = s.statusCode := rfl
@[simp] theorem State.fpRetire_ls (s : State) (op : Config.FpOp) (l : List Quad) (rt : Reg) (v : Quad) : (s.fpRetire op l rt v).ls = s.ls := rfl
@[simp] theorem State.fpRetire_dirty (s : State) (op : Config.FpOp) (l : List Quad) (rt : Reg) (v : Quad) : (s.fpRetire op l rt v).dirty = s.dirty := rfl
@[simp] theorem State.fpRetire_run (s : State) (op : Config.FpOp) (l : List Quad) (rt : Reg) (v : Quad) : (s.fpRetire op l rt v).run = s.run := rfl
@[simp] theorem State.fpRetire_stalled (s : State) (op : Config.FpOp) (l : List Quad) (rt : Reg) (v : Quad) : (s.fpRetire op l rt v).stalled = s.stalled := rfl
@[simp] theorem State.fpRetire_trace (s : State) (op : Config.FpOp) (l : List Quad) (rt : Reg) (v : Quad) : (s.fpRetire op l rt v).trace = s.trace := rfl
@[simp] theorem State.fpRetire_script (s : State) (op : Config.FpOp) (l : List Quad) (rt : Reg) (v : Quad) : (s.fpRetire op l rt v).script = s.script := rfl
@[simp] theorem State.fpRetire_now (s : State) (op : Config.FpOp) (l : List Quad) (rt : Reg) (v : Quad) : (s.fpRetire op l rt v).now = s.now := rfl

@[simp] theorem State.callTo_regs (s : State) (rt : Reg) (a : Word) : (s.callTo rt a).regs = s.regs.set rt.toNat s.link rt.isLt := rfl
@[simp] theorem State.callTo_pc (s : State) (rt : Reg) (a : Word) : (s.callTo rt a).pc = normPc a := rfl
@[simp] theorem State.callTo_ie (s : State) (rt : Reg) (a : Word) : (s.callTo rt a).ie = s.ie := rfl
@[simp] theorem State.callTo_srr0 (s : State) (rt : Reg) (a : Word) : (s.callTo rt a).srr0 = s.srr0 := rfl
@[simp] theorem State.callTo_fpscr (s : State) (rt : Reg) (a : Word) : (s.callTo rt a).fpscr = s.fpscr := rfl
@[simp] theorem State.callTo_sprs (s : State) (rt : Reg) (a : Word) : (s.callTo rt a).sprs = s.sprs := rfl
@[simp] theorem State.callTo_npc (s : State) (rt : Reg) (a : Word) : (s.callTo rt a).npc = s.npc := rfl
@[simp] theorem State.callTo_statusCode (s : State) (rt : Reg) (a : Word) : (s.callTo rt a).statusCode = s.statusCode := rfl
@[simp] theorem State.callTo_ls (s : State) (rt : Reg) (a : Word) : (s.callTo rt a).ls = s.ls := rfl
@[simp] theorem State.callTo_dirty (s : State) (rt : Reg) (a : Word) : (s.callTo rt a).dirty = s.dirty := rfl
@[simp] theorem State.callTo_run (s : State) (rt : Reg) (a : Word) : (s.callTo rt a).run = s.run := rfl
@[simp] theorem State.callTo_stalled (s : State) (rt : Reg) (a : Word) : (s.callTo rt a).stalled = s.stalled := rfl
@[simp] theorem State.callTo_trace (s : State) (rt : Reg) (a : Word) : (s.callTo rt a).trace = s.trace := rfl
@[simp] theorem State.callTo_script (s : State) (rt : Reg) (a : Word) : (s.callTo rt a).script = s.script := rfl
@[simp] theorem State.callTo_now (s : State) (rt : Reg) (a : Word) : (s.callTo rt a).now = s.now := rfl

@[simp] theorem State.placeWord_regs (s : State) (w : Word) : (s.placeWord w).regs = s.regs := rfl
@[simp] theorem State.placeWord_pc (s : State) (w : Word) : (s.placeWord w).pc = s.pc := rfl
@[simp] theorem State.placeWord_ie (s : State) (w : Word) : (s.placeWord w).ie = s.ie := rfl
@[simp] theorem State.placeWord_srr0 (s : State) (w : Word) : (s.placeWord w).srr0 = s.srr0 := rfl
@[simp] theorem State.placeWord_fpscr (s : State) (w : Word) : (s.placeWord w).fpscr = s.fpscr := rfl
@[simp] theorem State.placeWord_sprs (s : State) (w : Word) : (s.placeWord w).sprs = s.sprs := rfl
@[simp] theorem State.placeWord_npc (s : State) (w : Word) : (s.placeWord w).npc = s.npc := rfl
@[simp] theorem State.placeWord_statusCode (s : State) (w : Word) : (s.placeWord w).statusCode = s.statusCode := rfl
@[simp] theorem State.placeWord_ls (s : State) (w : Word) : (s.placeWord w).ls = Memory.writeBytes s.ls s.pc.toNat (bytesOfWord w) := rfl
@[simp] theorem State.placeWord_dirty (s : State) (w : Word) : (s.placeWord w).dirty = s.dirty.erase (lsa s.pc) := rfl
@[simp] theorem State.placeWord_run (s : State) (w : Word) : (s.placeWord w).run = .running := rfl
@[simp] theorem State.placeWord_stalled (s : State) (w : Word) : (s.placeWord w).stalled = s.stalled := rfl
@[simp] theorem State.placeWord_trace (s : State) (w : Word) : (s.placeWord w).trace = s.trace := rfl
@[simp] theorem State.placeWord_script (s : State) (w : Word) : (s.placeWord w).script = s.script := rfl
@[simp] theorem State.placeWord_now (s : State) (w : Word) : (s.placeWord w).now = s.now := rfl

/-! ## Registers -/

/-- A register after a write: the value written, or what it held. -/
theorem State.reg_setReg (s : State) (r q : Reg) (v : Quad) : (s.setReg r v).reg q = if q = r then v else s.reg q := by
  unfold State.reg
  simp only [State.setReg_regs, Vector.getElem_set]
  by_cases h : q = r
  · simp [h]
  · have h1 : ¬ r.toNat = q.toNat := fun e => h (BitVec.eq_of_toNat_eq e.symm)
    simp [h, h1]

@[simp] theorem State.reg_setReg_self (s : State) (r : Reg) (v : Quad) : (s.setReg r v).reg r = v := by
  simp [State.reg_setReg]

theorem State.reg_setReg_of_ne (s : State) {r q : Reg} (v : Quad) (h : q ≠ r) : (s.setReg r v).reg q = s.reg q := by
  simp [State.reg_setReg, h]

@[simp] theorem State.reg_retire_self (s : State) (r : Reg) (v : Quad) : (s.retire r v).reg r = v :=
  s.reg_setReg_self r v

theorem State.reg_retire_of_ne (s : State) {r q : Reg} (v : Quad) (h : q ≠ r) : (s.retire r v).reg q = s.reg q :=
  s.reg_setReg_of_ne v h

@[simp] theorem State.reg_fpRetire_self (s : State) (op : Config.FpOp) (l : List Quad) (r : Reg) (v : Quad) :
    (s.fpRetire op l r v).reg r = v := s.reg_setReg_self r v

theorem State.reg_fpRetire_of_ne (s : State) (op : Config.FpOp) (l : List Quad) {r q : Reg} (v : Quad) (h : q ≠ r) :
    (s.fpRetire op l r v).reg q = s.reg q := s.reg_setReg_of_ne v h

@[simp] theorem State.reg_callTo_self (s : State) (r : Reg) (a : Word) : (s.callTo r a).reg r = s.link :=
  s.reg_setReg_self r s.link

theorem State.reg_callTo_of_ne (s : State) {r q : Reg} (a : Word) (h : q ≠ r) : (s.callTo r a).reg q = s.reg q :=
  s.reg_setReg_of_ne s.link h

@[simp] theorem State.reg_advance (s : State) (q : Reg) : s.advance.reg q = s.reg q := rfl
@[simp] theorem State.reg_goto (s : State) (a : Word) (q : Reg) : (s.goto a).reg q = s.reg q := rfl
@[simp] theorem State.reg_setIe (s : State) (b : Bool) (q : Reg) : (s.setIe b).reg q = s.reg q := rfl
@[simp] theorem State.reg_store (s : State) (ea : Word) (v : Quad) (q : Reg) : (s.store ea v).reg q = s.reg q := rfl
@[simp] theorem State.reg_clearDirty (s : State) (q : Reg) : s.clearDirty.reg q = s.reg q := rfl
@[simp] theorem State.reg_emit (s : State) (e : Config.Event) (q : Reg) : (s.emit e).reg q = s.reg q := rfl
@[simp] theorem State.reg_setStalled (s : State) (b : Bool) (q : Reg) : (s.setStalled b).reg q = s.reg q := rfl
@[simp] theorem State.reg_setSpr (s : State) (n : SprNum) (v : Word) (q : Reg) : (s.setSpr n v).reg q = s.reg q := rfl
@[simp] theorem State.reg_stopAndSignal (s : State) (c : BitVec 14) (q : Reg) : (s.stopAndSignal c).reg q = s.reg q := rfl
@[simp] theorem State.reg_halt (s : State) (q : Reg) : s.halt.reg q = s.reg q := rfl
@[simp] theorem State.reg_takeInterrupt (s : State) (q : Reg) : s.takeInterrupt.reg q = s.reg q := rfl
@[simp] theorem State.reg_returnFromInterrupt (s : State) (q : Reg) : s.returnFromInterrupt.reg q = s.reg q := rfl
@[simp] theorem State.reg_tick (s : State) (q : Reg) : s.tick.reg q = s.reg q := rfl
@[simp] theorem State.reg_setFpscr (s : State) (v : Quad) (q : Reg) : (s.setFpscr v).reg q = s.reg q := rfl
@[simp] theorem State.reg_placeWord (s : State) (w : Word) (q : Reg) : (s.placeWord w).reg q = s.reg q := rfl

/-! ## Special purpose registers -/

/-- A special purpose register after a write. -/
theorem State.spr_setSpr (s : State) (n m : SprNum) (v : Word) :
    (s.setSpr n v).spr m = if m = n then some v else s.spr m := by
  unfold State.spr
  simp only [State.setSpr_sprs, Vector.getElem_set]
  by_cases h : m = n
  · simp [h]
  · have h1 : ¬ n.toNat = m.toNat := fun e => h (BitVec.eq_of_toNat_eq e.symm)
    simp [h, h1]

@[simp] theorem State.spr_setReg (s : State) (r : Reg) (v : Quad) (n : SprNum) : (s.setReg r v).spr n = s.spr n := rfl
@[simp] theorem State.spr_advance (s : State) (n : SprNum) : s.advance.spr n = s.spr n := rfl
@[simp] theorem State.spr_goto (s : State) (a : Word) (n : SprNum) : (s.goto a).spr n = s.spr n := rfl
@[simp] theorem State.spr_retire (s : State) (rt : Reg) (v : Quad) (n : SprNum) : (s.retire rt v).spr n = s.spr n := rfl
@[simp] theorem State.spr_setIe (s : State) (b : Bool) (n : SprNum) : (s.setIe b).spr n = s.spr n := rfl
@[simp] theorem State.spr_store (s : State) (ea : Word) (v : Quad) (n : SprNum) : (s.store ea v).spr n = s.spr n := rfl
@[simp] theorem State.spr_clearDirty (s : State) (n : SprNum) : s.clearDirty.spr n = s.spr n := rfl
@[simp] theorem State.spr_emit (s : State) (e : Config.Event) (n : SprNum) : (s.emit e).spr n = s.spr n := rfl
@[simp] theorem State.spr_setStalled (s : State) (b : Bool) (n : SprNum) : (s.setStalled b).spr n = s.spr n := rfl
@[simp] theorem State.spr_stopAndSignal (s : State) (c : BitVec 14) (n : SprNum) : (s.stopAndSignal c).spr n = s.spr n := rfl
@[simp] theorem State.spr_halt (s : State) (n : SprNum) : s.halt.spr n = s.spr n := rfl
@[simp] theorem State.spr_takeInterrupt (s : State) (n : SprNum) : s.takeInterrupt.spr n = s.spr n := rfl
@[simp] theorem State.spr_returnFromInterrupt (s : State) (n : SprNum) : s.returnFromInterrupt.spr n = s.spr n := rfl
@[simp] theorem State.spr_tick (s : State) (n : SprNum) : s.tick.spr n = s.spr n := rfl
@[simp] theorem State.spr_setFpscr (s : State) (v : Quad) (n : SprNum) : (s.setFpscr v).spr n = s.spr n := rfl
@[simp] theorem State.spr_fpRetire (s : State) (op : Config.FpOp) (l : List Quad) (rt : Reg) (v : Quad) (n : SprNum) : (s.fpRetire op l rt v).spr n = s.spr n := rfl
@[simp] theorem State.spr_callTo (s : State) (rt : Reg) (a : Word) (n : SprNum) : (s.callTo rt a).spr n = s.spr n := rfl
@[simp] theorem State.spr_placeWord (s : State) (w : Word) (n : SprNum) : (s.placeWord w).spr n = s.spr n := rfl

end Sys2Proof.Machine
end

