-- ==== Sys2Proof/Laws/Frames.lean ====
section
/-! SUPPORT. Sys2Proof/Laws/Frames.lean: for each shared ending of a meaning (retire, store, goto, branch, halt) the one lemma
that says what a state it leaves differs in, in the terms of Safety.lean. -/

namespace Sys2Proof.Machine

/-! ## Addresses in numbers -/

/-- `pc <- a` (R300 a) in numbers. -/
theorem toNat_normPc (a : Word) : (normPc a).toNat = a.toNat % Config.lsSize / 4 * 4 := by
  unfold normPc
  rw [BitVec.and_assoc, BitVec.toNat_and]
  exact and_ones_over_zeros a.toNat 2 16

/-- The address that a number names, in numbers. -/
theorem toNat_pcOf (n : Int) : ((pcOf n).toNat : Int) = n % Config.lsSize / 4 * 4 := by
  unfold pcOf Config.lsSize
  rw [BitVec.toNat_ofInt]
  omega

/-- `pc <- a` names the address that the number of `a` names, and so does any number equal to it modulo 2^32. -/
theorem normPc_eq_pcOf {a : Word} {n : Int} (h : (a.toNat : Int) = n % 2 ^ 32) : normPc a = pcOf n := by
  apply BitVec.eq_of_toNat_eq
  have h1 := toNat_normPc a
  have h2 := toNat_pcOf n
  unfold Config.lsSize at h1 h2
  omega

theorem isPc_normPc (a : Word) : IsPc (normPc a) := by
  unfold IsPc
  rw [toNat_normPc]
  unfold Config.lsSize
  omega

/-- `LSA` names the quadword that the number of the address names, and any number equal to it modulo 2^32. -/
theorem lsa_eq_quadOf {a : Word} {n : Int} (h : (a.toNat : Int) = n % 2 ^ 32) : lsa a = quadOf n := by
  unfold quadOf
  rw [lsa_eq]
  unfold Config.lsSize
  omega

/-- Sequential advance (R26). -/
theorem State.advance_nextPc (s : State) : normPc (s.pc + 4#32) = nextPc s :=
  normPc_eq_pcOf (by rw [BitVec.toNat_add]; simp)

theorem State.advance_pc_eq (s : State) : s.advance.pc = nextPc s := s.advance_nextPc

/-! ## Frames -/

theorem Quiet.of_eq {s t : State} (ls : t.ls = s.ls) (dirty : t.dirty = s.dirty) (srr0 : t.srr0 = s.srr0)
    (npc : t.npc = s.npc) (code : t.statusCode = s.statusCode) (sprs : t.sprs = s.sprs) (run : t.run = s.run)
    (stalled : t.stalled = s.stalled) (trace : t.trace = s.trace) (script : t.script = s.script)
    (now : t.now = s.now) : Quiet s t :=
  ⟨⟨fun a => by rw [ls], dirty⟩, ⟨srr0, npc, code, fun n => by simp only [State.spr, sprs]⟩,
    ⟨run, stalled, trace, script, now⟩⟩

/-- What an instruction that ends in `retire` does. -/
theorem computes_of_retire {i : Instr} {s : State} {rt : Reg} {v : Quad} {R : Quad → Prop}
    (h : exec i s = .next (s.retire rt v)) (hR : R v) : Computes i s rt R :=
  ⟨_, h, by rw [State.reg_retire_self]; exact hR, s.advance_nextPc, fun _ hq => State.reg_retire_of_ne s v hq,
    .of_eq rfl rfl rfl rfl rfl rfl rfl rfl rfl rfl rfl, rfl, rfl⟩

/-- What an instruction that ends in `fpRetire` does. -/
theorem fpComputes_of_fpRetire {i : Instr} {s : State} {op : Config.FpOp} {l : List Quad} {rt : Reg} {v : Quad}
    {R : Quad → Prop} (h : exec i s = .next (s.fpRetire op l rt v)) (hR : R v) : FpComputes i s op l rt R :=
  ⟨_, h, by rw [State.reg_fpRetire_self]; exact hR, s.advance_nextPc, fun _ hq => State.reg_fpRetire_of_ne s op l v hq,
    .of_eq rfl rfl rfl rfl rfl rfl rfl rfl rfl rfl rfl, rfl, rfl⟩

/-- What an instruction that stores and goes on does. -/
theorem stores_of_store {i : Instr} {s : State} {ea : Word} {v : Quad}
    (h : exec i s = .next (s.store ea v).advance) : Stores i s (lsa ea) v := by
  refine ⟨_, h, fun k hk => ?_, fun b hb => ?_, fun d => ?_, s.advance_nextPc, fun _ => rfl,
    ⟨rfl, rfl, rfl, fun _ => rfl⟩, ⟨rfl, rfl, rfl, rfl, rfl⟩, rfl, rfl⟩
  · simp only [State.advance_ls, State.store_ls]
    rw [Memory.read_storeQuad, if_pos (by omega), Nat.add_sub_cancel_left]
  · simp only [State.advance_ls, State.store_ls]
    rw [Memory.read_storeQuad, if_neg (by omega)]
  · exact mem_insertRising

/-- What an instruction does that only moves `pc` and IE. -/
theorem goes_of_eq {i : Instr} {s : State} {a : Word} {b : Bool} {pc : Word}
    (h : exec i s = .next { s with pc := a, ie := b }) (ha : a = pc) : Goes i s pc b :=
  ⟨_, h, ha, rfl, fun _ => rfl, .of_eq rfl rfl rfl rfl rfl rfl rfl rfl rfl rfl rfl, rfl⟩

/-- The return address (R300 f) in numbers. -/
theorem State.toNat_link (s : State) : (wordOf s.link 0).toNat = (s.pc.toNat + 4) % Config.lsSize := by
  unfold State.link
  rw [wordOf_inWord0_zero, BitVec.toNat_and, Config.lsMask, show (0x3FFFF#32).toNat = 2 ^ 18 - 1 from rfl,
    Nat.and_two_pow_sub_one_eq_mod, BitVec.toNat_add]
  unfold Config.lsSize
  simp

/-- What an instruction does that sets the link register, moves `pc` and perhaps IE. -/
theorem links_of_eq {i : Instr} {s : State} {rt : Reg} {a : Word} {b : Bool} {pc : Word}
    (h : exec i s = .next { s.setReg rt s.link with pc := a, ie := b }) (ha : a = pc) : Links i s rt pc b := by
  refine ⟨_, h, ha, rfl, ?_, fun k h0 hk => ?_, fun _ hq => State.reg_setReg_of_ne s _ hq,
    .of_eq rfl rfl rfl rfl rfl rfl rfl rfl rfl rfl rfl, rfl⟩
  · rw [show State.reg { s.setReg rt s.link with pc := a, ie := b } rt = s.link from State.reg_setReg_self s rt _]
    exact s.toNat_link
  · rw [show State.reg { s.setReg rt s.link with pc := a, ie := b } rt = s.link from State.reg_setReg_self s rt _]
    exact wordOf_inWord0_of_pos _ h0 hk

/-- What a halt instruction does (R289). -/
theorem haltsIf_of_haltIf {i : Instr} {s : State} {b : Bool} {p : Prop} (h : exec i s = .next (s.haltIf b))
    (hb : b = true ↔ p) : HaltsIf i s p := by
  cases b with
  | true =>
    have hp : p := hb.1 rfl
    exact ⟨_, h, fun _ => rfl, ⟨fun _ => rfl, rfl⟩, ⟨rfl, rfl, rfl, fun _ => rfl⟩, rfl, rfl, rfl, rfl, rfl,
      fun _ => ⟨rfl, rfl, rfl⟩, fun hn => absurd hp hn⟩
  | false =>
    have hp : ¬ p := fun x => absurd (hb.2 x) (by decide)
    exact ⟨_, h, fun _ => rfl, ⟨fun _ => rfl, rfl⟩, ⟨rfl, rfl, rfl, fun _ => rfl⟩, rfl, rfl, rfl, rfl, rfl,
      fun x => absurd x hp, fun _ => ⟨rfl, s.advance_nextPc, rfl⟩⟩

/-- What a conditional branch does (R300 e, R301). -/
theorem goesIf_of_branchIfIe {i : Instr} {s : State} {b : Bool} {p : Prop} {a : Word} {ie : Bool} {pc : Word}
    (h : exec i s = .next (s.branchIfIe b a ie)) (hb : b = true ↔ p) (ha : normPc a = pc) : GoesIf i s p pc ie := by
  cases b with
  | true =>
    exact ⟨fun _ => goes_of_eq h ha, fun hn => absurd (hb.1 rfl) hn⟩
  | false =>
    exact ⟨fun x => absurd (hb.2 x) (by decide), fun _ => goes_of_eq h s.advance_nextPc⟩

/-- A conditional branch that leaves IE. -/
theorem State.branchIf_eq (s : State) (b : Bool) (a : Word) : s.branchIf b a = s.branchIfIe b a s.ie := by
  cases b <;> rfl

end Sys2Proof.Machine
end

