-- ==== Sys2Proof/Laws/Numerics.lean ====
section
/-! SUPPORT. Sys2Proof/Laws/Numerics.lean: the integers that the machine calculates with in the exact core are the rational
values of the patterns (R350 c, d), and the conversion to an integer stays next to the value (R370). -/

namespace Sys2Proof.Machine

/-- Three fields put side by side in a number. -/
theorem fields_of_sum {a b s e r : ℕ} (hb : r < 2 ^ a) (he : e < 2 ^ b) (hs : s < 2) :
    (s * 2 ^ (a + b) + e * 2 ^ a + r) % 2 ^ a = r ∧ (s * 2 ^ (a + b) + e * 2 ^ a + r) / 2 ^ a % 2 ^ b = e ∧
    (s * 2 ^ (a + b) + e * 2 ^ a + r) / 2 ^ (a + b) % 2 = s := by
  have ha : 0 < 2 ^ a := Nat.pow_pos (by decide)
  have hbp : 0 < 2 ^ b := Nat.pow_pos (by decide)
  have e1 : s * 2 ^ (a + b) + e * 2 ^ a + r = r + 2 ^ a * (e + 2 ^ b * s) := by rw [Nat.pow_add]; ring
  have e2 : (r + 2 ^ a * (e + 2 ^ b * s)) / 2 ^ a = e + 2 ^ b * s := by
    rw [Nat.add_mul_div_left _ _ ha, Nat.div_eq_of_lt hb, Nat.zero_add]
  rw [e1]
  refine ⟨?_, ?_, ?_⟩
  · rw [Nat.add_mul_mod_self_left, Nat.mod_eq_of_lt hb]
  · rw [e2, Nat.add_mul_mod_self_left, Nat.mod_eq_of_lt he]
  · rw [Nat.pow_add, ← Nat.div_div_eq_div_mul, e2, Nat.add_mul_div_left _ _ hbp, Nat.div_eq_of_lt he, Nat.zero_add,
      Nat.mod_eq_of_lt hs]

/-- The decoded value of a core pattern is its value in units of the format (R350 c, d). -/
theorem coreValue_of_isCore {f : FpFormat} {bits : ℕ} {x : ℚ} (h : IsCore f bits x) (hu : 1 ≤ f.bias + f.frac) :
    ∃ v : ℤ, coreValue f bits = some v ∧ (v : ℚ) = x * 2 ^ f.unit := by
  obtain ⟨rfl, rfl⟩ | ⟨s, e, r, hs, he1, he2, hr, rfl, rfl⟩ := h
  · exact ⟨0, by simp [coreValue], by simp⟩
  · obtain ⟨f1, f2, f3⟩ := fields_of_sum (s := s) hr (show e < 2 ^ f.exp by omega) hs
    have hpos : 0 < 2 ^ f.frac := Nat.pow_pos (by decide)
    have hne : s * 2 ^ (f.frac + f.exp) + e * 2 ^ f.frac + r ≠ 0 := by
      have := Nat.mul_le_mul_right (2 ^ f.frac) he1
      omega
    refine ⟨if s = 1 then -(((2 ^ f.frac + r) * 2 ^ (e - 1) : ℕ) : ℤ)
      else (((2 ^ f.frac + r) * 2 ^ (e - 1) : ℕ) : ℤ), ?_, ?_⟩
    · unfold coreValue
      simp only [f1, f2, f3]
      rw [if_neg hne, if_neg (by unfold FpFormat.maxExp; omega)]
    · have hz : (2 : ℚ) ^ ((e : ℤ) - f.bias) * 2 ^ f.unit = 2 ^ (e - 1) * 2 ^ f.frac := by
        unfold FpFormat.unit
        rw [← zpow_natCast, ← zpow_natCast, ← zpow_natCast, ← zpow_add₀ (by norm_num),
          ← zpow_add₀ (by norm_num)]
        congr 1
        omega
      have hv : (2 : ℚ) ^ ((e : ℤ) - f.bias) * (1 + r / 2 ^ f.frac) * 2 ^ f.unit = (2 ^ f.frac + r) * 2 ^ (e - 1) := by
        rw [mul_right_comm, hz]
        field_simp
      have : s = 0 ∨ s = 1 := by omega
      rcases this with rfl | rfl
      · rw [if_neg (by decide)]; push_cast; rw [← hv]; ring
      · rw [if_pos rfl]; push_cast; rw [← hv]; ring

/-- A core value is encoded as its pattern (R350 c, d). -/
theorem corePattern_of_isCore {f : FpFormat} {r : ℕ} {u : ℕ} {v : ℤ} {y : ℚ} (h : IsCore f r y)
    (hy : y = v / 2 ^ u) (hv : v ≠ 0) :
    corePattern f u v = some r := by
  obtain ⟨rfl, rfl⟩ | ⟨s, e, fr, hs, he1, he2, hr, rfl, rfl⟩ := h
  · exfalso
    have : (v : ℚ) = 0 := by
      have h2 : (2 : ℚ) ^ u ≠ 0 := pow_ne_zero _ (by norm_num)
      rw [eq_comm, div_eq_zero_iff] at hy; exact hy.resolve_right h2
    exact hv (by exact_mod_cast this)
  · have h2 : (2 : ℚ) ^ u ≠ 0 := pow_ne_zero _ (by norm_num)
    have hvq : (v : ℚ) = (-1) ^ s * (2 ^ ((e : ℤ) - f.bias + u) * (1 + fr / 2 ^ f.frac)) := by
      rw [eq_div_iff h2] at hy
      rw [← hy, zpow_add₀ (by norm_num), zpow_natCast]; ring
    have hm1 : (1 : ℚ) ≤ 1 + fr / 2 ^ f.frac := by
      have : (0 : ℚ) ≤ fr / 2 ^ f.frac := by positivity
      linarith
    have hm2 : (1 : ℚ) + fr / 2 ^ f.frac < 2 := by
      have : (fr : ℚ) / 2 ^ f.frac < 1 := by
        rw [div_lt_one (by positivity)]; exact_mod_cast hr
      linarith
    have hp : (0 : ℚ) < 2 ^ ((e : ℤ) - f.bias + u) := by positivity
    have habs : ((v.natAbs : ℕ) : ℚ) = 2 ^ ((e : ℤ) - f.bias + u) * (1 + fr / 2 ^ f.frac) := by
      have : ((v.natAbs : ℕ) : ℚ) = |(v : ℚ)| := by rw [Nat.cast_natAbs]; push_cast; rfl
      rw [this, hvq, abs_mul, abs_pow, abs_neg, abs_one, one_pow, one_mul, abs_of_pos (by positivity)]
    have hn0 : v.natAbs ≠ 0 := Int.natAbs_ne_zero.2 hv
    have hk : 0 ≤ (e : ℤ) - f.bias + u := by
      by_contra hneg
      have h1 : (2 : ℚ) ^ ((e : ℤ) - f.bias + u) ≤ 2 ^ (-1 : ℤ) := zpow_le_zpow_right₀ (by norm_num) (by omega)
      have h3 : (1 : ℚ) ≤ v.natAbs := by exact_mod_cast Nat.one_le_iff_ne_zero.2 hn0
      rw [habs] at h3
      norm_num at h1
      nlinarith
    obtain ⟨l, hl⟩ := Int.eq_ofNat_of_zero_le hk
    rw [hl, zpow_natCast] at habs hvq
    have hlog : v.natAbs.log2 = l := by
      rw [Nat.log2_eq_iff hn0]
      have hp' : (0 : ℚ) < 2 ^ l := by positivity
      constructor
      · have : ((2 ^ l : ℕ) : ℚ) ≤ v.natAbs := by rw [habs]; push_cast; nlinarith
        exact_mod_cast this
      · have : (v.natAbs : ℚ) < ((2 ^ (l + 1) : ℕ) : ℚ) := by rw [habs]; push_cast; rw [pow_succ]; nlinarith
        exact_mod_cast this
    have hnat : v.natAbs * 2 ^ f.frac = 2 ^ l * (2 ^ f.frac + fr) := by
      have : ((v.natAbs * 2 ^ f.frac : ℕ) : ℚ) = ((2 ^ l * (2 ^ f.frac + fr) : ℕ) : ℚ) := by
        push_cast; rw [habs]; field_simp
      exact_mod_cast this
    have hsign : (if v < 0 then 2 ^ (f.frac + f.exp) else 0) = s * 2 ^ (f.frac + f.exp) := by
      have hX : (0 : ℚ) < 2 ^ l * (1 + fr / 2 ^ f.frac) := by positivity
      have : s = 0 ∨ s = 1 := by omega
      rcases this with rfl | rfl
      · rw [if_neg, Nat.zero_mul]
        intro hlt
        have : (v : ℚ) < 0 := by exact_mod_cast hlt
        rw [hvq] at this; simp only [pow_zero, one_mul] at this; linarith
      · rw [if_pos, Nat.one_mul]
        have : (v : ℚ) < 0 := by rw [hvq]; simp only [pow_one]; linarith
        exact_mod_cast this
    have hE : (l : ℤ) - u + f.bias = e := by omega
    unfold corePattern
    simp only [hlog, hE, hsign]
    rw [if_neg (by unfold FpFormat.maxExp; have := Nat.pow_pos (n := f.exp) (show 0 < 2 by decide); omega)]
    simp only [Int.toNat_natCast]
    split
    · next hle =>
      have hn : v.natAbs * 2 ^ (f.frac - l) = 2 ^ f.frac + fr := by
        have e1 : 2 ^ f.frac = 2 ^ (f.frac - l) * 2 ^ l := by rw [← Nat.pow_add]; congr 1; omega
        have hpl : 0 < 2 ^ l := Nat.pow_pos (by decide)
        apply Nat.eq_of_mul_eq_mul_left hpl
        rw [← hnat]
        conv_rhs => rw [e1]
        ring
      rw [hn]; congr 2; omega
    · next hgt =>
      have hn : v.natAbs = 2 ^ (l - f.frac) * (2 ^ f.frac + fr) := by
        have e1 : 2 ^ l = 2 ^ (l - f.frac) * 2 ^ f.frac := by rw [← Nat.pow_add]; congr 1; omega
        have hpl : 0 < 2 ^ f.frac := Nat.pow_pos (by decide)
        apply Nat.eq_of_mul_eq_mul_right hpl
        rw [hnat, e1]; ring
      have hp3 : 0 < 2 ^ (l - f.frac) := Nat.pow_pos (by decide)
      rw [hn, if_pos (Nat.mul_mod_right _ _), Nat.mul_div_cancel_left _ hp3]
      congr 2; omega

/-- A core single-precision value has at most 24 significant bits. -/
theorem natAbs_spValue {a : Word} {v : ℤ} (h : spValue a = some v) :
    ∃ m j : ℕ, m < 2 ^ 24 ∧ v.natAbs = m * 2 ^ j := by
  unfold spValue coreValue at h
  simp only at h
  split at h
  · cases h; exact ⟨0, 0, by decide, by simp⟩
  · split at h
    · cases h
    · refine ⟨2 ^ single.frac + a.toNat % 2 ^ single.frac, a.toNat / 2 ^ single.frac % 2 ^ single.exp - 1, ?_, ?_⟩
      · have : a.toNat % 2 ^ single.frac < 2 ^ single.frac := Nat.mod_lt _ (by decide)
        simp only [single] at *; omega
      · have := Option.some.inj h
        rw [← this]; split
        · rw [Int.natAbs_neg, Int.natAbs_natCast]
        · rw [Int.natAbs_natCast]

/-- A conversion to an integer is off by less than one (R370). -/
theorem toInteger_near {n : ℤ} {u : ℕ} (up : Bool) : |((toInteger n u up : ℤ) : ℚ) - n / 2 ^ u| < 1 := by
  have hp : (0 : ℤ) < 2 ^ u := by positivity
  have hq : (0 : ℚ) < 2 ^ u := by positivity
  have e := Int.mul_ediv_add_emod n (2 ^ u)
  have m0 := Int.emod_nonneg n hp.ne'
  have m1 := Int.emod_lt_of_pos n hp
  have eq : (n : ℚ) = 2 ^ u * ((n / 2 ^ u : ℤ) : ℚ) + ((n % 2 ^ u : ℤ) : ℚ) := by exact_mod_cast e.symm
  have q0 : (0 : ℚ) ≤ ((n % 2 ^ u : ℤ) : ℚ) := by exact_mod_cast m0
  have q1 : ((n % 2 ^ u : ℤ) : ℚ) < 2 ^ u := by exact_mod_cast m1
  have d : (n : ℚ) / 2 ^ u = ((n / 2 ^ u : ℤ) : ℚ) + ((n % 2 ^ u : ℤ) : ℚ) / 2 ^ u := by
    conv_lhs => rw [eq]
    field_simp
  have f0 : (0 : ℚ) ≤ ((n % 2 ^ u : ℤ) : ℚ) / 2 ^ u := by positivity
  have f1 : ((n % 2 ^ u : ℤ) : ℚ) / 2 ^ u < 1 := (div_lt_one hq).2 q1
  unfold toInteger
  simp only
  rw [d]
  split
  · next h0 => rw [h0]; simp
  · next h0 =>
    have f2 : (0 : ℚ) < ((n % 2 ^ u : ℤ) : ℚ) / 2 ^ u := by
      have : (0 : ℚ) < ((n % 2 ^ u : ℤ) : ℚ) := by exact_mod_cast (lt_of_le_of_ne m0 (Ne.symm h0))
      positivity
    split
    · rw [abs_lt]; push_cast; constructor <;> linarith
    · rw [abs_lt]; constructor <;> linarith

/-- A conversion of 24 significant bits stays inside a range wider than that. -/
theorem toInteger_mem {n : ℤ} {m j u : ℕ} (up : Bool) (hm : m < 2 ^ 24) (hn : n.natAbs = m * 2 ^ j) {lo hi : ℤ}
    (hlo : lo * 2 ^ u < n) (hhi : n < hi * 2 ^ u) (hhi2 : 2 ^ 25 ≤ hi) :
    lo ≤ toInteger n u up ∧ toInteger n u up < hi := by
  have hp : (0 : ℤ) < 2 ^ u := by positivity
  have b0 : lo ≤ n / 2 ^ u := by rw [Int.le_ediv_iff_mul_le hp]; omega
  have b1 : n / 2 ^ u < hi := by rw [Int.ediv_lt_iff_lt_mul hp]; omega
  unfold toInteger
  simp only
  split
  · exact ⟨b0, b1⟩
  · next h0 =>
    split
    · refine ⟨by omega, ?_⟩
      have hju : j < u := by
        by_contra hge
        apply h0
        have : (2 ^ u : ℕ) ∣ n.natAbs := by rw [hn]; exact Dvd.dvd.mul_left (Nat.pow_dvd_pow 2 (by omega)) _
        have h3 : ((2 ^ u : ℕ) : ℤ) ∣ n := Int.natCast_dvd.2 this
        push_cast at h3
        exact Int.emod_eq_zero_of_dvd h3
      have h4 : n.natAbs < 2 ^ 24 * 2 ^ u := by
        rw [hn]
        calc m * 2 ^ j ≤ m * 2 ^ u := Nat.mul_le_mul_left _ (Nat.pow_le_pow_right (by decide) hju.le)
          _ < 2 ^ 24 * 2 ^ u := Nat.mul_lt_mul_of_pos_right hm (Nat.pow_pos (by decide))
      have h5 : n < 2 ^ 24 * 2 ^ u := by
        have : ((n.natAbs : ℕ) : ℤ) < ((2 ^ 24 * 2 ^ u : ℕ) : ℤ) := by exact_mod_cast h4
        push_cast at this; exact lt_of_le_of_lt Int.le_natAbs (by push_cast; exact this)
      have h6 : n / 2 ^ u < 2 ^ 24 := by rw [Int.ediv_lt_iff_lt_mul hp]; exact h5
      generalize n / 2 ^ u = g at *
      omega
    · exact ⟨b0, b1⟩

end Sys2Proof.Machine
end

