-- ==== Sys2Proof/Laws/Operands.lean ====
section
/-! SUPPORT. Sys2Proof/Laws/Operands.lean: the operand forms in numbers: displacements, extended immediates, counts, the halves
of a word, insertion controls and shuffle selectors. -/

namespace Sys2Proof.Machine

/-! ## Immediates -/

theorem toInt_sext32 {n : Nat} (v : BitVec n) (h : n ≤ 32) : (sext32 v).toInt = v.toInt :=
  BitVec.toInt_signExtend_of_le h

theorem toInt_sext16 {n : Nat} (v : BitVec n) (h : n ≤ 16) : (sext16 v).toInt = v.toInt :=
  BitVec.toInt_signExtend_of_le h

theorem sext32_eq_ofInt {n : Nat} (v : BitVec n) (h : n ≤ 32) : sext32 v = BitVec.ofInt 32 v.toInt := by
  rw [← toInt_sext32 v h, BitVec.ofInt_toInt]

theorem sext16_eq_ofInt {n : Nat} (v : BitVec n) (h : n ≤ 16) : sext16 v = BitVec.ofInt 16 v.toInt := by
  rw [← toInt_sext16 v h, BitVec.ofInt_toInt]

theorem toNat_zext32 {n : Nat} (v : BitVec n) (h : n ≤ 32) : (zext32 v).toNat = v.toNat := by
  unfold zext32
  rw [BitVec.zeroExtend, BitVec.toNat_setWidth]
  exact Nat.mod_eq_of_lt (Nat.lt_of_lt_of_le v.isLt (Nat.pow_le_pow_right (by decide) h))

/-- The two readings of the byte immediate (R203, R280). -/
theorem low8_eq : ∀ v : BitVec 10, low8 v = v.setWidth 8 ∧ low8 v = BitVec.ofInt 8 v.toInt := by decide +kernel

theorem getLsbD_low8 (v : BitVec 10) {i : Nat} (h : i < 8) : (low8 v).getLsbD i = v.getLsbD i := by
  unfold low8
  rw [BitVec.getLsbD_extractLsb']
  simp [h]

/-- A bit of a sign-extended ten-bit immediate. -/
theorem getLsbD_signExtend_s10 (v : BitVec 10) (m : Nat) {i : Nat} (h : i < m) :
    (v.signExtend m).getLsbD i = v.getLsbD (min i 9) := by
  rw [BitVec.getLsbD_signExtend]
  simp only [h, decide_true, Bool.true_and]
  split
  · rw [Nat.min_eq_left (by omega)]
  · rw [BitVec.msb_eq_getLsbD_last, Nat.min_eq_right (by omega)]

/-- The d-form displacement, the four low bits ignored (R120). -/
theorem toNat_dispD (v : BitVec 14) : ((dispD v).toNat : Int) = (v.toInt / 16 * 16) % 2 ^ 32 := by
  have h : ∀ v : BitVec 14, dispD v = BitVec.ofInt 32 (v.toInt / 16 * 16) := by decide +kernel
  rw [h, BitVec.toNat_ofInt]
  omega

/-- Clearing the two low bits of a word. -/
theorem toNat_and_not_three (w : Word) : (w &&& ~~~3#32).toNat = w.toNat / 4 * 4 := by
  have h := and_ones_over_zeros w.toNat 2 30
  rw [Nat.mod_eq_of_lt w.isLt] at h
  rw [BitVec.toNat_and]
  exact h

/-- The offset `s18`, the two low bits ignored (R120, R300). -/
theorem toNat_off18 (v : BitVec 18) : ((off18 v).toNat : Int) = (v.toInt / 4 * 4) % 2 ^ 32 := by
  unfold off18
  rw [toNat_and_not_three]
  have h := toInt_sext32 v (by decide)
  rw [BitVec.toInt_eq_toNat_cond] at h
  have := (sext32 v).isLt
  split at h <;> omega

/-! ## Halves of a word -/

theorem hi16_wordOf (q : Quad) {k : Nat} (h : k < 4) : hi16 (wordOf q k) = halfOf q (2 * k) := by
  ext i hi
  simp only [← BitVec.getLsbD_eq_getElem, hi16, wordOf, halfOf, BitVec.getLsbD_extractLsb']
  rw [show 112 - 16 * (2 * k) + i = 96 - 32 * k + (16 + i) by omega]
  simp [hi]
  intro _
  omega

theorem lo16_wordOf (q : Quad) {k : Nat} (h : k < 4) : lo16 (wordOf q k) = halfOf q (2 * k + 1) := by
  ext i hi
  simp only [← BitVec.getLsbD_eq_getElem, lo16, wordOf, halfOf, BitVec.getLsbD_extractLsb']
  rw [show 112 - 16 * (2 * k + 1) + i = 96 - 32 * k + (0 + i) by omega]
  simp [hi]
  intro _
  omega

theorem hi16_append (a b : Half) : hi16 (a ++ b) = a := by
  ext i hi
  simp only [← BitVec.getLsbD_eq_getElem, BitVec.getLsbD_append, hi16, BitVec.getLsbD_extractLsb']
  simp [hi, show ¬ (16 + i < 16) by omega]

theorem lo16_append (a b : Half) : lo16 (a ++ b) = b := by
  ext i hi
  simp only [← BitVec.getLsbD_eq_getElem, BitVec.getLsbD_append, lo16, BitVec.getLsbD_extractLsb']
  simp [hi]

/-- The upper half as a signed number. -/
theorem toInt_hi16 (w : Word) : (hi16 w).toInt = w.toInt / 2 ^ 16 := by
  have e : (hi16 w).toNat = w.toNat / 2 ^ 16 % 2 ^ 16 := by
    unfold hi16
    rw [BitVec.extractLsb'_toNat, Nat.shiftRight_eq_div_pow]
  rw [BitVec.toInt_eq_toNat_cond, BitVec.toInt_eq_toNat_cond, e]
  have := w.isLt
  split <;> split <;> omega

/-! ## Shift counts and shifts -/

theorem toNat_shiftLeft_eq {n : Nat} (x : BitVec n) (c : Nat) : (x <<< c).toNat = x.toNat * 2 ^ c % 2 ^ n := by
  rw [BitVec.toNat_shiftLeft, Nat.shiftLeft_eq]

theorem toNat_ushiftRight_eq {n : Nat} (x : BitVec n) (c : Nat) : (x >>> c).toNat = x.toNat / 2 ^ c := by
  rw [BitVec.toNat_ushiftRight, Nat.shiftRight_eq_div_pow]

theorem toInt_sshiftRight_eq {n : Nat} (x : BitVec n) (c : Nat) : (x.sshiftRight c).toInt = x.toInt / 2 ^ c := by
  rw [BitVec.toInt_sshiftRight, Int.shiftRight_eq_div_pow]
  push_cast
  rfl

/-- A rotation moves bit `i` to place `i + m` modulo the width, for any `m` equal to the count modulo the width. -/
theorem getLsbD_rotateLeft_add {n : Nat} (x : BitVec n) {c i m : Nat} (hm : c % n = m % n) (hi : i < n) :
    (x.rotateLeft c).getLsbD ((i + m) % n) = x.getLsbD i := by
  have hp : 0 < n := by omega
  have hc := Nat.mod_lt c hp
  rw [BitVec.getLsbD_rotateLeft, Nat.add_mod, ← hm, Nat.mod_eq_of_lt hi]
  by_cases h : i + c % n < n
  · rw [Nat.mod_eq_of_lt h]
    simp [show ¬ (i + c % n < c % n) by omega, h]
  · have h2 : (i + c % n) % n = i + c % n - n := by
      rw [Nat.mod_eq_sub_mod (by omega), Nat.mod_eq_of_lt (by omega)]
    rw [h2]
    simp only [show i + c % n - n < c % n by omega, decide_true, cond_true]
    congr 1
    omega

/-- The byte count of the bit-count forms (R238). -/
theorem lowCount_field5 (w : Word) : lowCount 5 (w.extractLsb' 3 5) = w.toNat / 8 % 32 := by
  unfold lowCount
  rw [BitVec.extractLsb'_toNat, Nat.shiftRight_eq_div_pow]
  omega

/-- The byte count of the rotating bit-count form (R247). -/
theorem lowCount_field4 (w : Word) : lowCount 4 (w.extractLsb' 3 4) = w.toNat / 8 % 16 := by
  unfold lowCount
  rw [BitVec.extractLsb'_toNat, Nat.shiftRight_eq_div_pow]
  omega

theorem negCount_word (w : Word) : negCount 6 w = (64 - w.toNat % 64) % 64 ∧
    negCount 5 w = (32 - w.toNat % 32) % 32 ∧ negCount 3 w = (8 - w.toNat % 8) % 8 := by
  have := w.isLt
  unfold negCount
  rw [BitVec.toNat_sub]
  simp
  omega

theorem negCount_half (w : Half) : negCount 5 w = (32 - w.toNat % 32) % 32 := by
  have := w.isLt
  unfold negCount
  rw [BitVec.toNat_sub]
  simp
  omega

theorem negCount_imm (v : BitVec 7) : negCount 6 v = (64 - v.toNat % 64) % 64 ∧
    negCount 5 v = (32 - v.toNat % 32) % 32 ∧ negCount 3 v = (8 - v.toNat % 8) % 8 := by
  have := v.isLt
  unfold negCount
  rw [BitVec.toNat_sub]
  simp
  omega

theorem negByteCount_eq (w : Word) : negByteCount w = (32 - w.toNat / 8 % 32) % 32 := by
  have h : ∀ v : BitVec 5, negCount 5 v = (32 - v.toNat) % 32 := by decide
  unfold negByteCount
  rw [h, BitVec.extractLsb'_toNat, Nat.shiftRight_eq_div_pow]

/-! ## Insertion controls and shuffle -/

/-- The bytes of a control mask (R129). -/
theorem isInsertion_insertMask {n first : Nat} (p : Nat) (hf : first + n ≤ 16) :
    IsInsertion n first p (insertMask n first p) := by
  intro k hk
  unfold insertMask fieldAt
  simp only
  rw [byteOf_ofBytes _ hk]
  split <;> rw [BitVec.toNat_ofNat] <;> omega

/-- Only the place inside the quadword counts. -/
theorem isInsertion_congr {n first p q : Nat} {v : Quad} (h : p % 16 = q % 16) :
    IsInsertion n first p v ↔ IsInsertion n first q v := by
  unfold IsInsertion fieldAt
  rw [h]

/-- A shuffle selector by the number of its byte (R220). -/
theorem shuffleByte_eq (x y : Quad) (c : Byte) : shuffleByte x y c =
    if c.toNat < 0x80 then if c.toNat % 32 < 16 then byteOf x (c.toNat % 32) else byteOf y (c.toNat % 32 - 16)
    else if c.toNat < 0xC0 then 0x00#8 else if c.toNat < 0xE0 then 0xFF#8 else 0x80#8 := by
  have h : ∀ c : Byte, (c.extractLsb' 6 2 = 0b10#2 ↔ 0x80 ≤ c.toNat ∧ c.toNat < 0xC0) ∧
      (c.extractLsb' 5 3 = 0b110#3 ↔ 0xC0 ≤ c.toNat ∧ c.toNat < 0xE0) ∧
      (c.extractLsb' 5 3 = 0b111#3 ↔ 0xE0 ≤ c.toNat) := by decide +kernel
  obtain ⟨a, b, d⟩ := h c
  unfold shuffleByte lowCount
  rw [show 2 ^ 5 = 32 from rfl]
  simp only [a, b, d]
  repeat' split
  all_goals first | rfl | (exfalso; omega)

end Sys2Proof.Machine
end

