-- ==== Sys2Proof/Laws/Step.lean ====
section
/-! SUPPORT. Sys2Proof/Laws/Step.lean: what a step that answers a next state did, when a step runs the fetched
instruction, and the two meanings that can fault. -/

namespace Sys2Proof.Machine

/-- The end of a step answers a next state only on a next state. -/
theorem finishStep_next {r : Result} {t : State} (h : finishStep r = .next t) : ∃ u, r = .next u ∧ t = u.tick := by
  cases r with
  | next u => exact ⟨u, rfl, (Host.Outcome.next.inj h).symm⟩
  | fault f => cases h
  | refused f => cases h

/-- Everything a step that goes on can have done: an interrupt entry, or the fetched instruction (R64, R415). -/
theorem step_next {s t : State} (h : step s = .next t) : s.run = .running ∧
    ((s.interrupted = true ∧ t = s.takeInterrupt.tick) ∨
      ∃ i u, s.fetch = .ok i ∧ exec i s = .next u ∧ t = u.tick) := by
  unfold step at h
  cases hr : s.run with
  | running =>
    rw [hr] at h
    simp only at h
    refine ⟨rfl, ?_⟩
    split at h
    · next hi => exact .inl ⟨hi, (Host.Outcome.next.inj h).symm⟩
    · split at h
      · next i hf =>
        obtain ⟨u, hu, ht⟩ := finishStep_next h
        exact .inr ⟨i, u, hf, hu, ht⟩
      · cases h
  | stopped => rw [hr] at h; cases h
  | halted => rw [hr] at h; cases h

/-- When a boundary takes no interrupt (R415). -/
theorem interrupted_eq_false {s : State} (h : ¬ (s.ie = true ∧ s.stalled = false ∧ s.irq = true)) :
    s.interrupted = false := by
  unfold State.interrupted
  cases h1 : s.ie <;> cases h2 : s.stalled <;> cases h3 : s.irq <;> simp_all

/-- A running machine that takes no interrupt does what its fetch says. -/
theorem step_of_fetch {s : State} (hr : s.run = .running)
    (h : ¬ (s.ie = true ∧ s.stalled = false ∧ s.irq = true)) :
    step s = match s.fetch with
      | .ok i => finishStep (exec i s)
      | .error f => .fault f := by
  unfold step
  rw [hr, interrupted_eq_false h]
  rfl

/-- Four defined bytes are what the fetch reads. -/
theorem readBytes_four {m : Memory} {a : Nat} {b0 b1 b2 b3 : Byte} (h0 : Memory.read m a = some b0)
    (h1 : Memory.read m (a + 1) = some b1) (h2 : Memory.read m (a + 2) = some b2)
    (h3 : Memory.read m (a + 3) = some b3) : Memory.readBytes m a 4 = some [b0, b1, b2, b3] := by
  simp only [Memory.readBytes, h0, h1, Nat.add_assoc, Nat.reduceAdd, h2, h3]

/-- `mfspr` goes on only for a mapped register (R398). -/
theorem execMfspr_next {s t : State} {rt : Reg} {n : SprNum} (h : execMfspr rt n s = .next t) :
    ∃ v, s.spr n = some v ∧ t = s.retire rt (v ++ s.fresh96) := by
  unfold execMfspr at h
  split at h
  · next v hv => exact ⟨v, hv, (Host.Outcome.next.inj h).symm⟩
  · cases h

/-- `mtspr` goes on only for a mapped register (R399). -/
theorem execMtspr_next {s t : State} {ra : Reg} {n : SprNum} (h : execMtspr n ra s = .next t) :
    (∃ v, s.spr n = some v) ∧ t = (s.setSpr n (s.reg0 ra)).advance := by
  unfold execMtspr at h
  split at h
  · next v hv => exact ⟨⟨v, hv⟩, (Host.Outcome.next.inj h).symm⟩
  · cases h

/-- Everything `rdch` can do with an answer (R400): the value is taken and recorded, or the machine waits. -/
theorem State.finishRead_cases (s : State) (rt : Reg) (ch : Chan) (answer : Option Quad) :
    (∃ v, answer = some v ∧ s.finishRead rt ch answer = ((s.emit (.chRead ch v)).retire rt v).setStalled false) ∨
      (answer = none ∧ s.finishRead rt ch answer = s.setStalled true) := by
  cases answer with
  | some v => exact .inl ⟨v, rfl, rfl⟩
  | none => exact .inr ⟨rfl, rfl⟩

/-- Everything `wrch` can do with an answer (R402): the write is done and recorded, or the machine waits. -/
theorem State.finishWrite_cases (s : State) (ch : Chan) (v : Quad) (done : Bool) :
    (done = true ∧ s.finishWrite ch v done = (s.emit (.chWrite ch v)).advance.setStalled false) ∨
      (done = false ∧ s.finishWrite ch v done = s.setStalled true) := by
  cases done
  · exact .inr ⟨rfl, rfl⟩
  · exact .inl ⟨rfl, rfl⟩

/-- Everything a halt instruction can do (R289): the halt, or the next instruction. -/
theorem State.haltIf_cases (s : State) (b : Bool) :
    (b = true ∧ s.haltIf b = s.halt) ∨ (b = false ∧ s.haltIf b = s.advance) := by
  cases b
  · exact .inr ⟨rfl, rfl⟩
  · exact .inl ⟨rfl, rfl⟩

/-- The register just written. -/
theorem State.spr_setSpr_self (s : State) (n : SprNum) (v : Word) : (s.setSpr n v).spr n = some v := by
  unfold State.spr State.setSpr
  exact Vector.getElem_set_self ..

/-- Another register. -/
theorem State.spr_setSpr_of_ne (s : State) {n m : SprNum} (v : Word) (h : m ≠ n) :
    (s.setSpr n v).spr m = s.spr m := by
  simp only [State.spr, State.setSpr]
  rw [Vector.getElem_set_ne]
  exact fun e => h (BitVec.eq_of_toNat_eq e).symm

end Sys2Proof.Machine
end

