-- ==== Sys2Proof/Tests/Slice0.lean ====
section
/-! SUPPORT. Sys2Proof/Tests/Slice0.lean: the check on instructions refuses each ill-formed operand; every row of
the opcode table decodes; one step of each instruction on the vectors V of 95_test_vectors.md or the worked examples of its rule; and
for each obligation with hypotheses a state that meets them. -/

namespace Sys2Proof.Tests

open Sys2Proof Sys2Proof.Machine

-- One thread: hundreds of small kernel evaluations at once take a stack each.
set_option Elab.async false

/-! ## Well-formed operands (R71; log 12) -/

theorem test_wellFormed_refuses_u5 : ([Instr.shlhi 3#7 4#7 32#7, .shlqbyi 3#7 4#7 32#7].map Instr.wellFormed) =
  [false, false] := by decide
theorem test_wellFormed_refuses_u6 : (Instr.shli 3#7 4#7 64#7).wellFormed = false := by decide
theorem test_wellFormed_refuses_u3 : ([Instr.shlqbii 3#7 4#7 8#7, .rotqbii 3#7 4#7 8#7].map Instr.wellFormed) =
  [false, false] := by decide
theorem test_wellFormed_refuses_scale : ([Instr.cflts 3#7 4#7 128#8, .cfltu 3#7 4#7 128#8, .csflt 3#7 4#7 128#8,
  .cuflt 3#7 4#7 128#8].map Instr.wellFormed) = [false, false, false, false] := by decide
theorem test_wellFormed_accepts_largest : ([Instr.shlhi 3#7 4#7 31#7, .shlqbyi 3#7 4#7 31#7, .shli 3#7 4#7 63#7,
  .shlqbii 3#7 4#7 7#7, .rotqbii 3#7 4#7 7#7, .cflts 3#7 4#7 127#8, .cuflt 3#7 4#7 127#8].map Instr.wellFormed) =
    [true, true, true, true, true, true, true] := by decide
/-- R71: a statement may write the low bits that are ignored. -/
theorem test_wellFormed_accepts_ignored_bits : ([Instr.stqd 6#7 0x25#14 2#7, .lqd 3#7 0x1FFF#14 4#7, .lqa 3#7 2#18,
  .br 1#18, .hbr 1#11 4#7, .hbra 3#11 3#18].map Instr.wellFormed) = [true, true, true, true, true, true] := by decide
/-- R125: `stqd $6, 0x25($2)` is the word 0x24008106, which acts as a displacement of 0x20. -/
theorem test_encode_ignored_bits : encode (.stqd 6#7 0x25#14 2#7) = 0x24008106#32 ∧
    (match decodeWord 0x24008106#32 with | .ok i => i == .stqd 6#7 0x20#14 2#7 | .error _ => false) = true ∧
    (Instr.stqd 6#7 0x25#14 2#7).clearIgnored = .stqd 6#7 0x20#14 2#7 := by decide +kernel
/-- The ignored bits of the three kinds of operand, all ones before. -/
theorem test_clearIgnored : (Instr.lqd 3#7 0x3FFF#14 4#7).clearIgnored = .lqd 3#7 0x3FF0#14 4#7 ∧
    (Instr.brsl 0#7 0x3FFFF#18).clearIgnored = .brsl 0#7 0x3FFFC#18 ∧
    (Instr.hbrr 0x7FF#11 0x3FFFF#18).clearIgnored = .hbrr 0x7FC#11 0x3FFFC#18 := by decide

/-! ## Decoding: words of the spec's worked examples, one for each row -/

/-- The word decodes to the instruction, and the instruction is encoded as the word. -/
def decodes (w : Word) (i : Instr) : Bool :=
  match decodeWord w with
  | .ok j => decide (j = i) && encode i == w
  | .error _ => false

theorem test_decode_loadstore : (
  decodes 0x34008107#32 (.lqd 7#7 32#14 2#7) &&
  decodes 0x38814107#32 (.lqx 7#7 2#7 5#7) &&
  decodes 0x30FFFE07#32 (.lqa 7#7 0x3fff0#18) &&
  decodes 0x33FFF787#32 (.lqr 7#7 0x3ffbc#18) &&
  decodes 0x24008106#32 (.stqd 6#7 32#14 2#7) &&
  decodes 0x28814206#32 (.stqx 6#7 4#7 5#7) &&
  decodes 0x20FFFF86#32 (.stqa 6#7 0x3fffc#18) &&
  decodes 0x23FFF806#32 (.stqr 6#7 0x3ffc0#18) &&
  decodes 0x3E800103#32 (.cbd 3#7 0#7 2#7) &&
  decodes 0x3A810103#32 (.cbx 3#7 2#7 4#7) &&
  decodes 0x3EA00103#32 (.chd 3#7 0#7 2#7) &&
  decodes 0x3AA14203#32 (.chx 3#7 4#7 5#7) &&
  decodes 0x3EC00103#32 (.cwd 3#7 0#7 2#7) &&
  decodes 0x3AC14203#32 (.cwx 3#7 4#7 5#7) &&
  decodes 0x3EE00103#32 (.cdd 3#7 0#7 2#7) &&
  decodes 0x3AE14203#32 (.cdx 3#7 4#7 5#7)) = true := by decide
theorem test_decode_constant : (
  decodes 0x40C00003#32 (.il 3#7 0x8000#16) &&
  decodes 0x4291A283#32 (.ila 3#7 0x12345#18) &&
  decodes 0x41D5E683#32 (.ilh 3#7 0xabcd#16) &&
  decodes 0x41091A03#32 (.ilhu 3#7 0x1234#16) &&
  decodes 0x60AB3C03#32 (.iohl 3#7 0x5678#16) &&
  decodes 0x32C00083#32 (.fsmbi 3#7 0x8001#16)) = true := by decide
theorem test_decode_arith_1 : (
  decodes 0x18014203#32 (.a 3#7 4#7 5#7) &&
  decodes 0x19014203#32 (.ah 3#7 4#7 5#7) &&
  decodes 0x1DFFC203#32 (.ahi 3#7 4#7 0x3ff#10) &&
  decodes 0x1C004203#32 (.ai 3#7 4#7 1#10) &&
  decodes 0x68014203#32 (.addx 3#7 4#7 5#7) &&
  decodes 0x18414203#32 (.cg 3#7 4#7 5#7) &&
  decodes 0x68414203#32 (.cgx 3#7 4#7 5#7) &&
  decodes 0x08014203#32 (.sf 3#7 4#7 5#7) &&
  decodes 0x09014203#32 (.sfh 3#7 4#7 5#7) &&
  decodes 0x0D000203#32 (.sfhi 3#7 4#7 0#10) &&
  decodes 0x0C000203#32 (.sfi 3#7 4#7 0#10) &&
  decodes 0x68214203#32 (.sfx 3#7 4#7 5#7) &&
  decodes 0x08414203#32 (.bg 3#7 4#7 5#7) &&
  decodes 0x68614203#32 (.bgx 3#7 4#7 5#7) &&
  decodes 0x78824403#32 (.mpy 3#7 8#7 9#7) &&
  decodes 0x79824403#32 (.mpyu 3#7 8#7 9#7) &&
  decodes 0x74FFC403#32 (.mpyi 3#7 8#7 0x3ff#10) &&
  decodes 0x75FFC403#32 (.mpyui 3#7 8#7 0x3ff#10) &&
  decodes 0xC062440A#32 (.mpya 3#7 8#7 9#7 10#7) &&
  decodes 0x78A24403#32 (.mpyh 3#7 8#7 9#7) &&
  decodes 0x78E24403#32 (.mpys 3#7 8#7 9#7) &&
  decodes 0x78C24403#32 (.mpyhh 3#7 8#7 9#7) &&
  decodes 0x68C24403#32 (.mpyhha 3#7 8#7 9#7) &&
  decodes 0x79C24403#32 (.mpyhhu 3#7 8#7 9#7)) = true := by decide
theorem test_decode_arith_2 : (
  decodes 0x69C24403#32 (.mpyhhau 3#7 8#7 9#7) &&
  decodes 0x54A00203#32 (.clz 3#7 4#7) &&
  decodes 0x56800203#32 (.cntb 3#7 4#7) &&
  decodes 0x36800203#32 (.fsm 3#7 4#7) &&
  decodes 0x36A00203#32 (.fsmh 3#7 4#7) &&
  decodes 0x36C00203#32 (.fsmb 3#7 4#7) &&
  decodes 0x36000203#32 (.gb 3#7 4#7) &&
  decodes 0x36200203#32 (.gbh 3#7 4#7) &&
  decodes 0x36400203#32 (.gbb 3#7 4#7) &&
  decodes 0x1A614203#32 (.avgb 3#7 4#7 5#7) &&
  decodes 0x0A614203#32 (.absdb 3#7 4#7 5#7) &&
  decodes 0x4A614203#32 (.sumb 3#7 4#7 5#7) &&
  decodes 0x56C00203#32 (.xsbh 3#7 4#7) &&
  decodes 0x55C00203#32 (.xshw 3#7 4#7) &&
  decodes 0x54C00203#32 (.xswd 3#7 4#7)) = true := by decide
theorem test_decode_logical : (
  decodes 0x18214203#32 (.and 3#7 4#7 5#7) &&
  decodes 0x58214203#32 (.andc 3#7 4#7 5#7) &&
  decodes 0x1603C203#32 (.andbi 3#7 4#7 15#10) &&
  decodes 0x15C00203#32 (.andhi 3#7 4#7 0x300#10) &&
  decodes 0x14C00203#32 (.andi 3#7 4#7 0x300#10) &&
  decodes 0x08214203#32 (.or 3#7 4#7 5#7) &&
  decodes 0x59214203#32 (.orc 3#7 4#7 5#7) &&
  decodes 0x06200203#32 (.orbi 3#7 4#7 128#10) &&
  decodes 0x05800203#32 (.orhi 3#7 4#7 0x200#10) &&
  decodes 0x04800203#32 (.ori 3#7 4#7 0x200#10) &&
  decodes 0x3E000203#32 (.orx 3#7 4#7) &&
  decodes 0x48214203#32 (.xor 3#7 4#7 5#7) &&
  decodes 0x463FC203#32 (.xorbi 3#7 4#7 255#10) &&
  decodes 0x45554203#32 (.xorhi 3#7 4#7 0x155#10) &&
  decodes 0x44004203#32 (.xori 3#7 4#7 1#10) &&
  decodes 0x19214203#32 (.nand 3#7 4#7 5#7) &&
  decodes 0x09214203#32 (.nor 3#7 4#7 5#7) &&
  decodes 0x49214203#32 (.eqv 3#7 4#7 5#7) &&
  decodes 0x80614206#32 (.selb 3#7 4#7 5#7 6#7) &&
  decodes 0xB0614206#32 (.shufb 3#7 4#7 5#7 6#7)) = true := by decide
theorem test_decode_shift_1 : (
  decodes 0x0B614203#32 (.shl 3#7 4#7 5#7) &&
  decodes 0x0BE14203#32 (.shlh 3#7 4#7 5#7) &&
  decodes 0x0FE10203#32 (.shlhi 3#7 4#7 4#7) &&
  decodes 0x0F620203#32 (.shli 3#7 4#7 8#7) &&
  decodes 0x3B614203#32 (.shlqbi 3#7 4#7 5#7) &&
  decodes 0x3F61C203#32 (.shlqbii 3#7 4#7 7#7) &&
  decodes 0x3BE14203#32 (.shlqby 3#7 4#7 5#7) &&
  decodes 0x39E14203#32 (.shlqbybi 3#7 4#7 5#7) &&
  decodes 0x3FE14203#32 (.shlqbyi 3#7 4#7 5#7) &&
  decodes 0x0B014203#32 (.rot 3#7 4#7 5#7) &&
  decodes 0x0B814203#32 (.roth 3#7 4#7 5#7) &&
  decodes 0x0F810203#32 (.rothi 3#7 4#7 4#7) &&
  decodes 0x0F020203#32 (.roti 3#7 4#7 8#7) &&
  decodes 0x3B014203#32 (.rotqbi 3#7 4#7 5#7) &&
  decodes 0x3F01C203#32 (.rotqbii 3#7 4#7 7#7) &&
  decodes 0x3B814203#32 (.rotqby 3#7 4#7 5#7) &&
  decodes 0x39814203#32 (.rotqbybi 3#7 4#7 5#7) &&
  decodes 0x3F814203#32 (.rotqbyi 3#7 4#7 5#7) &&
  decodes 0x0B214203#32 (.rotm 3#7 4#7 5#7) &&
  decodes 0x0F3E0203#32 (.rotmi 3#7 4#7 120#7) &&
  decodes 0x0BA14203#32 (.rothm 3#7 4#7 5#7) &&
  decodes 0x0FBF0203#32 (.rothmi 3#7 4#7 124#7) &&
  decodes 0x0B414203#32 (.rotma 3#7 4#7 5#7) &&
  decodes 0x0F5E0203#32 (.rotmai 3#7 4#7 120#7)) = true := by decide
theorem test_decode_shift_2 : (
  decodes 0x0BC14203#32 (.rotmah 3#7 4#7 5#7) &&
  decodes 0x0FDF0203#32 (.rotmahi 3#7 4#7 124#7) &&
  decodes 0x3B214203#32 (.rotqmbi 3#7 4#7 5#7) &&
  decodes 0x3F3F4203#32 (.rotqmbii 3#7 4#7 125#7) &&
  decodes 0x3BA14203#32 (.rotqmby 3#7 4#7 5#7) &&
  decodes 0x39A14203#32 (.rotqmbybi 3#7 4#7 5#7) &&
  decodes 0x3FBEC203#32 (.rotqmbyi 3#7 4#7 123#7)) = true := by decide
theorem test_decode_compare : (
  decodes 0x7A014203#32 (.ceqb 3#7 4#7 5#7) &&
  decodes 0x79014203#32 (.ceqh 3#7 4#7 5#7) &&
  decodes 0x78014203#32 (.ceq 3#7 4#7 5#7) &&
  decodes 0x7EFFC203#32 (.ceqbi 3#7 4#7 0x3ff#10) &&
  decodes 0x7DFFC203#32 (.ceqhi 3#7 4#7 0x3ff#10) &&
  decodes 0x7CFFC203#32 (.ceqi 3#7 4#7 0x3ff#10) &&
  decodes 0x4A014203#32 (.cgtb 3#7 4#7 5#7) &&
  decodes 0x49014203#32 (.cgth 3#7 4#7 5#7) &&
  decodes 0x48014203#32 (.cgt 3#7 4#7 5#7) &&
  decodes 0x4EFFC203#32 (.cgtbi 3#7 4#7 0x3ff#10) &&
  decodes 0x4DFFC203#32 (.cgthi 3#7 4#7 0x3ff#10) &&
  decodes 0x4CFFC203#32 (.cgti 3#7 4#7 0x3ff#10) &&
  decodes 0x5A014203#32 (.clgtb 3#7 4#7 5#7) &&
  decodes 0x59014203#32 (.clgth 3#7 4#7 5#7) &&
  decodes 0x58014203#32 (.clgt 3#7 4#7 5#7) &&
  decodes 0x5EFFC203#32 (.clgtbi 3#7 4#7 0x3ff#10) &&
  decodes 0x5DFFC203#32 (.clgthi 3#7 4#7 0x3ff#10) &&
  decodes 0x5CFFC203#32 (.clgti 3#7 4#7 0x3ff#10) &&
  decodes 0x7B014200#32 (.heq 0#7 4#7 5#7) &&
  decodes 0x7F014200#32 (.heqi 0#7 4#7 5#10) &&
  decodes 0x4B018200#32 (.hgt 0#7 4#7 6#7) &&
  decodes 0x4F010200#32 (.hgti 0#7 4#7 4#10) &&
  decodes 0x5B010300#32 (.hlgt 0#7 6#7 4#7) &&
  decodes 0x5F014300#32 (.hlgti 0#7 6#7 5#10)) = true := by decide
theorem test_decode_branch_1 : (
  decodes 0x32000800#32 (.br 64#18) &&
  decodes 0x30020000#32 (.bra 0x1000#18) &&
  decodes 0x33000800#32 (.brsl 0#7 64#18) &&
  decodes 0x31040000#32 (.brasl 0#7 0x2000#18) &&
  decodes 0x35000200#32 (.bi 4#7) &&
  decodes 0x35080200#32 (.bid 4#7) &&
  decodes 0x35040200#32 (.bie 4#7) &&
  decodes 0x35200200#32 (.bisl 0#7 4#7) &&
  decodes 0x35280203#32 (.bisld 3#7 4#7) &&
  decodes 0x35240203#32 (.bisle 3#7 4#7) &&
  decodes 0x35600203#32 (.bisled 3#7 4#7) &&
  decodes 0x35680203#32 (.bisledd 3#7 4#7) &&
  decodes 0x35640203#32 (.bislede 3#7 4#7) &&
  decodes 0x35400000#32 (.iret 0#7) &&
  decodes 0x35480000#32 (.iretd 0#7) &&
  decodes 0x35440000#32 (.irete 0#7) &&
  decodes 0x20000805#32 (.brz 5#7 64#18) &&
  decodes 0x21000805#32 (.brnz 5#7 64#18) &&
  decodes 0x22000806#32 (.brhz 6#7 64#18) &&
  decodes 0x23000806#32 (.brhnz 6#7 64#18) &&
  decodes 0x25000205#32 (.biz 5#7 4#7) &&
  decodes 0x25080205#32 (.bizd 5#7 4#7) &&
  decodes 0x25040205#32 (.bize 5#7 4#7) &&
  decodes 0x25200205#32 (.binz 5#7 4#7)) = true := by decide
theorem test_decode_branch_2 : (
  decodes 0x25280205#32 (.binzd 5#7 4#7) &&
  decodes 0x25240205#32 (.binze 5#7 4#7) &&
  decodes 0x25400205#32 (.bihz 5#7 4#7) &&
  decodes 0x25480206#32 (.bihzd 6#7 4#7) &&
  decodes 0x25440206#32 (.bihze 6#7 4#7) &&
  decodes 0x25600204#32 (.bihnz 4#7 4#7) &&
  decodes 0x25680204#32 (.bihnzd 4#7 4#7) &&
  decodes 0x25640204#32 (.bihnze 4#7 4#7) &&
  decodes 0x35800208#32 (.hbr 32#11 4#7) &&
  decodes 0x10020008#32 (.hbra 32#11 0x1000#18) &&
  decodes 0x12001008#32 (.hbrr 32#11 128#18) &&
  decodes 0x35900000#32 (.hbrp)) = true := by decide
theorem test_decode_float_1 : (
  decodes 0x58814203#32 (.fa 3#7 4#7 5#7) &&
  decodes 0x58A14203#32 (.fs 3#7 4#7 5#7) &&
  decodes 0x58C14203#32 (.fm 3#7 4#7 5#7) &&
  decodes 0xE0614206#32 (.fma 3#7 4#7 5#7 6#7) &&
  decodes 0xF0614206#32 (.fms 3#7 4#7 5#7 6#7) &&
  decodes 0xD0614206#32 (.fnms 3#7 4#7 5#7 6#7) &&
  decodes 0x59814203#32 (.dfa 3#7 4#7 5#7) &&
  decodes 0x59A14203#32 (.dfs 3#7 4#7 5#7) &&
  decodes 0x59C14203#32 (.dfm 3#7 4#7 5#7) &&
  decodes 0x6B814203#32 (.dfma 3#7 4#7 5#7) &&
  decodes 0x6BA14203#32 (.dfms 3#7 4#7 5#7) &&
  decodes 0x6BC14203#32 (.dfnms 3#7 4#7 5#7) &&
  decodes 0x6BE14203#32 (.dfnma 3#7 4#7 5#7) &&
  decodes 0x37000203#32 (.frest 3#7 4#7) &&
  decodes 0x37200203#32 (.frsqest 3#7 4#7) &&
  decodes 0x7A814203#32 (.fi 3#7 4#7 5#7) &&
  decodes 0x77000203#32 (.fesd 3#7 4#7) &&
  decodes 0x77200203#32 (.frds 3#7 4#7) &&
  decodes 0x762B0203#32 (.cflts 3#7 4#7 1#8) &&
  decodes 0x766B0203#32 (.cfltu 3#7 4#7 1#8) &&
  decodes 0x76A68203#32 (.csflt 3#7 4#7 1#8) &&
  decodes 0x76E6C203#32 (.cuflt 3#7 4#7 0#8) &&
  decodes 0x78414203#32 (.fceq 3#7 4#7 5#7) &&
  decodes 0x79414203#32 (.fcmeq 3#7 4#7 5#7)) = true := by decide
theorem test_decode_float_2 : (
  decodes 0x58414203#32 (.fcgt 3#7 4#7 5#7) &&
  decodes 0x59414203#32 (.fcmgt 3#7 4#7 5#7) &&
  decodes 0x73000003#32 (.fscrrd 3#7) &&
  decodes 0x77400200#32 (.fscrwr 0#7 4#7)) = true := by decide
theorem test_decode_control : (
  decodes 0x00002001#32 (.stop 0x2001#14) &&
  decodes 0x28000000#32 (.stopd 0#7 0#7 0#7) &&
  decodes 0x00200000#32 (.lnop) &&
  decodes 0x40200000#32 (.nop 0#7) &&
  decodes 0x00400000#32 (.sync) &&
  decodes 0x00500000#32 (.syncc) &&
  decodes 0x00600000#32 (.dsync) &&
  decodes 0x01800283#32 (.mfspr 3#7 5#7) &&
  decodes 0x21800284#32 (.mtspr 5#7 4#7) &&
  decodes 0x01A00183#32 (.rdch 3#7 3#7) &&
  decodes 0x01E00183#32 (.rchcnt 3#7 3#7) &&
  decodes 0x21A00184#32 (.wrch 3#7 4#7)) = true := by decide

/-! One word of each family put together field by field (30_encoding.md Part B). -/

theorem test_fields_loadstore : decodes (0b00110100#8 ++ 2#10 ++ 2#7 ++ 7#7) (.lqd 7#7 0x20#14 2#7) = true := by decide
theorem test_fields_constant : decodes (0b010000001#9 ++ 0xFFFF#16 ++ 3#7) (.il 3#7 0xFFFF#16) = true := by decide
theorem test_fields_arith : decodes (0b00011000000#11 ++ 5#7 ++ 4#7 ++ 3#7) (.a 3#7 4#7 5#7) = true := by decide
theorem test_fields_multiply : decodes (0b1100#4 ++ 3#7 ++ 9#7 ++ 8#7 ++ 10#7) (.mpya 3#7 8#7 9#7 10#7) = true := by
  decide
theorem test_fields_logical : decodes (0b00011000001#11 ++ 5#7 ++ 4#7 ++ 3#7) (.and 3#7 4#7 5#7) = true := by decide
theorem test_fields_shift : decodes (0b00001111111#11 ++ 4#7 ++ 4#7 ++ 3#7) (.shlhi 3#7 4#7 4#7) = true := by decide
theorem test_fields_compare : decodes (0b01001110#8 ++ 0x3FF#10 ++ 4#7 ++ 3#7) (.cgtbi 3#7 4#7 0x3FF#10) = true := by
  decide
theorem test_fields_branch : decodes (0b001100100#9 ++ 0xFFC0#16 ++ 0#7) (.br 0x3FF00#18) = true := by decide
theorem test_fields_branch_disable : decodes (0b00100101000#11 ++ 0b0100000#7 ++ 4#7 ++ 5#7) (.bizd 5#7 4#7) = true := by
  decide
theorem test_fields_float : decodes (0b0111011000#10 ++ 46#8 ++ 4#7 ++ 3#7) (.cflts 3#7 4#7 127#8) = true := by
  decide
theorem test_fields_control : decodes (0b00100001101#11 ++ 0#7 ++ 3#7 ++ 4#7) (.wrch 3#7 4#7) = true := by decide

/-- V446 and V449: no row of the table (U5). -/
theorem test_decode_rejects_unlisted : decodeWord 0x00800000#32 = .error (.invalid 0x00800000#32) ∧
    decodeWord 0xAFE00000#32 = .error (.invalid 0xAFE00000#32) := by decide +kernel
/-- D and E both set (R81), in `bi` and in `bisled`. -/
theorem test_decode_rejects_both_suffixes : decodeWord 0x350C0200#32 = .error (.invalid 0x350C0200#32) ∧
    decodeWord 0x356C0200#32 = .error (.invalid 0x356C0200#32) := by decide +kernel
/-- Three bytes are no instruction. -/
theorem test_decode_rejects_short : decode [0x18#8, 0x01#8, 0x42#8] = .error (.truncated 3) := by
  decide +kernel
/-- The table's numbering of bits. -/
theorem test_decodeTableWord : decodeTableWord 32 0x18014203 = some (.a 3#7 4#7 5#7) ∧
    decodeTableWord 32 0x00800000 = none := by
  decide +kernel


/-! ## One step of each instruction -/

/-- The entry state with `pc`, IE and some registers given, and no interrupt asked for. -/
def at_ (pc : Word) (ie : Bool) (regs : List (Reg × Quad)) : State :=
  regs.foldl (fun s p => s.setReg p.1 p.2) { State.reset with
    pc := pc, ie := ie, script := [⟨false, 0#32, none, false⟩] }

/-- The same with the quadwords of local storage that the vectors of loads and stores start from. -/
def withData (s : State) : State :=
  { s with ls := Memory.storeQuad (Memory.storeQuad (Memory.storeQuad (Memory.storeQuad [] 0x100
      0x000102030405060708090A0B0C0D0E0F#128) 0x110 0xA0A1A2A3A4A5A6A7A8A9AAABACADAEAF#128) 0x210
      0xB0B1B2B3B4B5B6B7B8B9BABBBCBDBEBF#128) 0x3FFF0 0xF0F1F2F3F4F5F6F7F8F9FAFBFCFDFEFF#128 }

/-- The state an instruction leaves, where it goes on. -/
def after (i : Instr) (s : State) : Option State :=
  match exec i s with
  | .next t => some t
  | .fault _ => none
  | .refused _ => none

/-- The fault of an answer. -/
def faultOf : Result → Option Fault
  | .next _ => none
  | .fault f => some f
  | .refused _ => none

/-- What the instruction leaves in a register. -/
def result (i : Instr) (s : State) (r : Reg) : Option Quad := (after i s).map (·.reg r)

/-- Where the machine goes on, and IE. -/
def goesTo (i : Instr) (s : State) : Option (Word × Bool) := (after i s).map fun t => (t.pc, t.ie)

/-- A link register with the branch: `pc`, IE and the register. -/
def linksTo (i : Instr) (s : State) (r : Reg) : Option (Word × Bool × Quad) :=
  (after i s).map fun t => (t.pc, t.ie, t.reg r)

/-- The run state and `pc` after a halt instruction. -/
def endsAs (i : Instr) (s : State) : Option (RunState × Word) := (after i s).map fun t => (t.run, t.pc)

/-- The quadword found where an instruction stored, and Dirty. -/
def stored (i : Instr) (s : State) (a : Nat) : Option (Quad × List Nat) :=
  (after i s).map fun t => (Memory.loadQuad t.ls a, t.dirty)

/-- V1. -/
theorem test_lqd_V1 : result (.lqd 3#7 16#14 4#7)
    (withData (at_ 0x100#32 false [(4#7, 0x00000105DEAD0001DEAD0002DEAD0003#128)])) 3#7 =
    some 0xA0A1A2A3A4A5A6A7A8A9AAABACADAEAF#128 := by decide +kernel
/-- V2. -/
theorem test_lqd_V2 : result (.lqd 3#7 0x3ff0#14 4#7)
    (withData (at_ 0x100#32 false [(4#7, 0x0000011FDEAD0001DEAD0002DEAD0003#128)])) 3#7 =
    some 0x000102030405060708090A0B0C0D0E0F#128 := by decide +kernel
/-- V7. -/
theorem test_lqx_V7 : result (.lqx 3#7 4#7 5#7)
    (withData (at_ 0x100#32 false [(4#7, 0xFFFFFFF0DEAD0001DEAD0002DEAD0003#128),
      (5#7, 0x00000120DEAD0001DEAD0002DEAD0003#128)])) 3#7 =
    some 0xA0A1A2A3A4A5A6A7A8A9AAABACADAEAF#128 := by decide +kernel
/-- V8. -/
theorem test_lqx_V8 : result (.lqx 3#7 4#7 5#7)
    (withData (at_ 0x100#32 false [(4#7, 0x0003FFFFDEAD0001DEAD0002DEAD0003#128),
      (5#7, 0x00000111DEAD0001DEAD0002DEAD0003#128)])) 3#7 =
    some 0xA0A1A2A3A4A5A6A7A8A9AAABACADAEAF#128 := by decide +kernel
/-- V12. -/
theorem test_lqa_V12 : result (.lqa 3#7 0x3fff0#18) (withData (at_ 0x100#32 false [])) 3#7 =
    some 0xF0F1F2F3F4F5F6F7F8F9FAFBFCFDFEFF#128 := by decide +kernel
/-- V14. -/
theorem test_lqr_V14 : result (.lqr 3#7 4#18) (withData (at_ 0x20C#32 false [])) 3#7 =
    some 0xB0B1B2B3B4B5B6B7B8B9BABBBCBDBEBF#128 := by decide +kernel
/-- V16. -/
theorem test_lqr_V16 : result (.lqr 3#7 0x3fefc#18) (withData (at_ 0x100#32 false [])) 3#7 =
    some 0xF0F1F2F3F4F5F6F7F8F9FAFBFCFDFEFF#128 := by decide +kernel
/-- V26. -/
theorem test_cbd_V26 : result (.cbd 3#7 0#7 4#7)
    (at_ 0x100#32 false [(4#7, 0x00001003DEAD0001DEAD0002DEAD0003#128)]) 3#7 =
    some 0x101112031415161718191A1B1C1D1E1F#128 := by decide
/-- V28. -/
theorem test_cbd_V28 : result (.cbd 3#7 127#7 4#7)
    (at_ 0x100#32 false [(4#7, 0x00001003DEAD0001DEAD0002DEAD0003#128)]) 3#7 =
    some 0x101103131415161718191A1B1C1D1E1F#128 := by decide
/-- V37. -/
theorem test_cbx_V37 : result (.cbx 3#7 4#7 5#7)
    (at_ 0x100#32 false [(4#7, 0x00001003DEAD0001DEAD0002DEAD0003#128),
      (5#7, 0x0000000EDEAD0001DEAD0002DEAD0003#128)]) 3#7 =
    some 0x100312131415161718191A1B1C1D1E1F#128 := by decide
/-- V29. -/
theorem test_chd_V29 : result (.chd 3#7 0#7 4#7)
    (at_ 0x100#32 false [(4#7, 0x00001003DEAD0001DEAD0002DEAD0003#128)]) 3#7 =
    some 0x101102031415161718191A1B1C1D1E1F#128 := by decide
/-- V31. -/
theorem test_chd_V31 : result (.chd 3#7 11#7 4#7)
    (at_ 0x100#32 false [(4#7, 0x00001003DEAD0001DEAD0002DEAD0003#128)]) 3#7 =
    some 0x101112131415161718191A1B1C1D0203#128 := by decide
/-- V38. -/
theorem test_chx_V38 : result (.chx 3#7 4#7 5#7)
    (at_ 0x100#32 false [(4#7, 0x00001003DEAD0001DEAD0002DEAD0003#128),
      (5#7, 0x0000000EDEAD0001DEAD0002DEAD0003#128)]) 3#7 =
    some 0x020312131415161718191A1B1C1D1E1F#128 := by decide
/-- V32. -/
theorem test_cwd_V32 : result (.cwd 3#7 0#7 4#7)
    (at_ 0x100#32 false [(4#7, 0x00001003DEAD0001DEAD0002DEAD0003#128)]) 3#7 =
    some 0x000102031415161718191A1B1C1D1E1F#128 := by decide
/-- V34. -/
theorem test_cwd_V34 : result (.cwd 3#7 9#7 4#7)
    (at_ 0x100#32 false [(4#7, 0x00001003DEAD0001DEAD0002DEAD0003#128)]) 3#7 =
    some 0x101112131415161718191A1B00010203#128 := by decide
/-- V39. -/
theorem test_cwx_V39 : result (.cwx 3#7 4#7 5#7)
    (at_ 0x100#32 false [(4#7, 0x00001003DEAD0001DEAD0002DEAD0003#128),
      (5#7, 0x0000000EDEAD0001DEAD0002DEAD0003#128)]) 3#7 =
    some 0x000102031415161718191A1B1C1D1E1F#128 := by decide
/-- V35. -/
theorem test_cdd_V35 : result (.cdd 3#7 0#7 4#7)
    (at_ 0x100#32 false [(4#7, 0x00001003DEAD0001DEAD0002DEAD0003#128)]) 3#7 =
    some 0x000102030405060718191A1B1C1D1E1F#128 := by decide
/-- V36. -/
theorem test_cdd_V36 : result (.cdd 3#7 5#7 4#7)
    (at_ 0x100#32 false [(4#7, 0x00001003DEAD0001DEAD0002DEAD0003#128),
      (5#7, 0x0000000EDEAD0001DEAD0002DEAD0003#128)]) 3#7 =
    some 0x10111213141516170001020304050607#128 := by decide
/-- V40. -/
theorem test_cdx_V40 : result (.cdx 3#7 4#7 5#7)
    (at_ 0x100#32 false [(4#7, 0x00001003DEAD0001DEAD0002DEAD0003#128),
      (5#7, 0x0000000EDEAD0001DEAD0002DEAD0003#128)]) 3#7 =
    some 0x000102030405060718191A1B1C1D1E1F#128 := by decide
/-- V45. -/
theorem test_il_V45 : result (.il 3#7 0#16) (at_ 0x100#32 false []) 3#7 =
    some 0x00000000000000000000000000000000#128 := by decide
/-- V49. -/
theorem test_il_V49 : result (.il 3#7 0x8000#16) (at_ 0x100#32 false []) 3#7 =
    some 0xFFFF8000FFFF8000FFFF8000FFFF8000#128 := by decide
/-- V50. -/
theorem test_ila_V50 : result (.ila 3#7 0#18) (at_ 0x100#32 false []) 3#7 =
    some 0x00000000000000000000000000000000#128 := by decide
/-- V52. -/
theorem test_ila_V52 : result (.ila 3#7 0x20000#18) (at_ 0x100#32 false []) 3#7 =
    some 0x00020000000200000002000000020000#128 := by decide
/-- V53. -/
theorem test_ilh_V53 : result (.ilh 3#7 0x1234#16) (at_ 0x100#32 false []) 3#7 =
    some 0x12341234123412341234123412341234#128 := by decide
/-- V54. -/
theorem test_ilh_V54 : result (.ilh 3#7 0xffff#16) (at_ 0x100#32 false []) 3#7 =
    some 0xFFFFFFFFFFFFFFFFFFFFFFFFFFFFFFFF#128 := by decide
/-- V55. -/
theorem test_ilhu_V55 : result (.ilhu 3#7 0x8000#16) (at_ 0x100#32 false []) 3#7 =
    some 0x80000000800000008000000080000000#128 := by decide
/-- V56. -/
theorem test_ilhu_V56 : result (.ilhu 3#7 0xffff#16) (at_ 0x100#32 false []) 3#7 =
    some 0xFFFF0000FFFF0000FFFF0000FFFF0000#128 := by decide
/-- V61. -/
theorem test_iohl_V61 : result (.iohl 3#7 0x5678#16)
    (at_ 0x100#32 false [(3#7, 0x12340000123400001234000012340000#128)]) 3#7 =
    some 0x12345678123456781234567812345678#128 := by decide
/-- V63. -/
theorem test_iohl_V63 : result (.iohl 3#7 0#16)
    (at_ 0x100#32 false [(3#7, 0x00000001000000020000000300000004#128)]) 3#7 =
    some 0x00000001000000020000000300000004#128 := by decide
/-- V57. -/
theorem test_fsmbi_V57 : result (.fsmbi 3#7 0#16) (at_ 0x100#32 false []) 3#7 =
    some 0x00000000000000000000000000000000#128 := by decide
/-- V60. -/
theorem test_fsmbi_V60 : result (.fsmbi 3#7 0x1234#16) (at_ 0x100#32 false []) 3#7 =
    some 0x000000FF0000FF000000FFFF00FF0000#128 := by decide
/-- V64. -/
theorem test_a_V64 : result (.a 3#7 4#7 5#7)
    (at_ 0x100#32 false [(3#7, 0x0000000100000000FFFFFFFE00000003#128),
      (4#7, 0xFFFFFFFF800000007FFFFFFF00000001#128),
      (5#7, 0x000000018000000000000001FFFFFFFF#128)]) 3#7 =
    some 0x00000000000000008000000000000000#128 := by decide
/-- V65. -/
theorem test_ah_V65 : result (.ah 3#7 4#7 5#7)
    (at_ 0x100#32 false [(3#7, 0x0000000100000000FFFFFFFE00000003#128),
      (4#7, 0xFFFFFFFF800000007FFFFFFF00000001#128),
      (5#7, 0x000000018000000000000001FFFFFFFF#128)]) 3#7 =
    some 0xFFFF0000000000007FFF0000FFFF0000#128 := by decide
/-- V70. -/
theorem test_ahi_V70 : result (.ahi 3#7 4#7 0x3ff#10)
    (at_ 0x100#32 false [(3#7, 0x0000000100000000FFFFFFFE00000003#128),
      (4#7, 0xFFFFFFFF800000007FFFFFFF00000001#128)]) 3#7 =
    some 0xFFFEFFFE7FFFFFFF7FFEFFFEFFFF0000#128 := by decide
/-- V71. -/
theorem test_ahi_V71 : result (.ahi 3#7 4#7 0x1ff#10)
    (at_ 0x100#32 false [(3#7, 0x0000000100000000FFFFFFFE00000003#128),
      (4#7, 0xFFFFFFFF800000007FFFFFFF00000001#128)]) 3#7 =
    some 0x01FE01FE81FF01FF81FE01FE01FF0200#128 := by decide
/-- V66. -/
theorem test_ai_V66 : result (.ai 3#7 4#7 1#10)
    (at_ 0x100#32 false [(3#7, 0x0000000100000000FFFFFFFE00000003#128),
      (4#7, 0xFFFFFFFF800000007FFFFFFF00000001#128)]) 3#7 =
    some 0x00000000800000018000000000000002#128 := by decide
/-- V69. -/
theorem test_ai_V69 : result (.ai 3#7 4#7 0x200#10)
    (at_ 0x100#32 false [(3#7, 0x0000000100000000FFFFFFFE00000003#128),
      (4#7, 0xFFFFFFFF800000007FFFFFFF00000001#128)]) 3#7 =
    some 0xFFFFFDFF7FFFFE007FFFFDFFFFFFFE01#128 := by decide
/-- V73. -/
theorem test_addx_V73 : result (.addx 3#7 4#7 5#7)
    (at_ 0x100#32 false [(3#7, 0x0000000100000000FFFFFFFE00000003#128),
      (4#7, 0xFFFFFFFF800000007FFFFFFF00000001#128),
      (5#7, 0x000000018000000000000001FFFFFFFF#128)]) 3#7 =
    some 0x00000001000000008000000000000001#128 := by decide
/-- V72. -/
theorem test_cg_V72 : result (.cg 3#7 4#7 5#7)
    (at_ 0x100#32 false [(3#7, 0x0000000100000000FFFFFFFE00000003#128),
      (4#7, 0xFFFFFFFF800000007FFFFFFF00000001#128),
      (5#7, 0x000000018000000000000001FFFFFFFF#128)]) 3#7 =
    some 0x00000001000000010000000000000001#128 := by decide
/-- V74. -/
theorem test_cgx_V74 : result (.cgx 3#7 4#7 5#7)
    (at_ 0x100#32 false [(3#7, 0x0000000100000000FFFFFFFE00000003#128),
      (4#7, 0xFFFFFFFF800000007FFFFFFF00000001#128),
      (5#7, 0x000000018000000000000001FFFFFFFF#128)]) 3#7 =
    some 0x00000001000000010000000000000001#128 := by decide
/-- V75. -/
theorem test_sf_V75 : result (.sf 3#7 4#7 5#7)
    (at_ 0x100#32 false [(3#7, 0x0000000100000000FFFFFFFE00000003#128),
      (4#7, 0xFFFFFFFF800000007FFFFFFF00000001#128),
      (5#7, 0x000000018000000000000001FFFFFFFF#128)]) 3#7 =
    some 0x000000020000000080000002FFFFFFFE#128 := by decide
/-- V76. -/
theorem test_sf_V76 : result (.sf 3#7 5#7 4#7)
    (at_ 0x100#32 false [(3#7, 0x0000000100000000FFFFFFFE00000003#128),
      (4#7, 0xFFFFFFFF800000007FFFFFFF00000001#128),
      (5#7, 0x000000018000000000000001FFFFFFFF#128)]) 3#7 =
    some 0xFFFFFFFE000000007FFFFFFE00000002#128 := by decide
/-- V77. -/
theorem test_sfh_V77 : result (.sfh 3#7 4#7 5#7)
    (at_ 0x100#32 false [(3#7, 0x0000000100000000FFFFFFFE00000003#128),
      (4#7, 0xFFFFFFFF800000007FFFFFFF00000001#128),
      (5#7, 0x000000018000000000000001FFFFFFFF#128)]) 3#7 =
    some 0x000100020000000080010002FFFFFFFE#128 := by decide
/-- V81. -/
theorem test_sfhi_V81 : result (.sfhi 3#7 4#7 0#10)
    (at_ 0x100#32 false [(3#7, 0x0000000100000000FFFFFFFE00000003#128),
      (4#7, 0xFFFFFFFF800000007FFFFFFF00000001#128)]) 3#7 =
    some 0x0001000180000000800100010000FFFF#128 := by decide
/-- V78. -/
theorem test_sfi_V78 : result (.sfi 3#7 4#7 0#10)
    (at_ 0x100#32 false [(3#7, 0x0000000100000000FFFFFFFE00000003#128),
      (4#7, 0xFFFFFFFF800000007FFFFFFF00000001#128)]) 3#7 =
    some 0x000000018000000080000001FFFFFFFF#128 := by decide
/-- V80. -/
theorem test_sfi_V80 : result (.sfi 3#7 4#7 0x1ff#10)
    (at_ 0x100#32 false [(3#7, 0x0000000100000000FFFFFFFE00000003#128),
      (4#7, 0xFFFFFFFF800000007FFFFFFF00000001#128)]) 3#7 =
    some 0x00000200800001FF80000200000001FE#128 := by decide
/-- V83. -/
theorem test_sfx_V83 : result (.sfx 3#7 4#7 5#7)
    (at_ 0x100#32 false [(3#7, 0x0000000100000000FFFFFFFE00000003#128),
      (4#7, 0xFFFFFFFF800000007FFFFFFF00000001#128),
      (5#7, 0x000000018000000000000001FFFFFFFF#128)]) 3#7 =
    some 0x00000002FFFFFFFF80000001FFFFFFFE#128 := by decide
/-- V82. -/
theorem test_bg_V82 : result (.bg 3#7 4#7 5#7)
    (at_ 0x100#32 false [(3#7, 0x0000000100000000FFFFFFFE00000003#128),
      (4#7, 0xFFFFFFFF800000007FFFFFFF00000001#128),
      (5#7, 0x000000018000000000000001FFFFFFFF#128)]) 3#7 =
    some 0x00000000000000010000000000000001#128 := by decide
/-- V84. -/
theorem test_bgx_V84 : result (.bgx 3#7 4#7 5#7)
    (at_ 0x100#32 false [(3#7, 0x0000000100000000FFFFFFFE00000003#128),
      (4#7, 0xFFFFFFFF800000007FFFFFFF00000001#128),
      (5#7, 0x000000018000000000000001FFFFFFFF#128)]) 3#7 =
    some 0x00000000000000000000000000000001#128 := by decide
/-- V85. -/
theorem test_mpy_V85 : result (.mpy 3#7 8#7 9#7)
    (at_ 0x100#32 false [(3#7, 0x00000001FFFFFFFF800000000000000A#128),
      (8#7, 0x8000FFFF00037FFFFFFF800012340002#128),
      (9#7, 0x8000FFFF0005FFFFFFFF8000FFFE0003#128)]) 3#7 =
    some 0x00000001FFFF80014000000000000006#128 := by decide
/-- V86. -/
theorem test_mpyu_V86 : result (.mpyu 3#7 8#7 9#7)
    (at_ 0x100#32 false [(3#7, 0x00000001FFFFFFFF800000000000000A#128),
      (8#7, 0x8000FFFF00037FFFFFFF800012340002#128),
      (9#7, 0x8000FFFF0005FFFFFFFF8000FFFE0003#128)]) 3#7 =
    some 0xFFFE00017FFE80014000000000000006#128 := by decide
/-- V87. -/
theorem test_mpyi_V87 : result (.mpyi 3#7 8#7 0x3ff#10)
    (at_ 0x100#32 false [(3#7, 0x00000001FFFFFFFF800000000000000A#128),
      (8#7, 0x8000FFFF00037FFFFFFF800012340002#128)]) 3#7 =
    some 0x00000001FFFF800100008000FFFFFFFE#128 := by decide
/-- V88. -/
theorem test_mpyi_V88 : result (.mpyi 3#7 8#7 0x1ff#10)
    (at_ 0x100#32 false [(3#7, 0x00000001FFFFFFFF800000000000000A#128),
      (8#7, 0x8000FFFF00037FFFFFFF800012340002#128)]) 3#7 =
    some 0xFFFFFE0100FF7E01FF008000000003FE#128 := by decide
/-- V89. -/
theorem test_mpyui_V89 : result (.mpyui 3#7 8#7 0x3ff#10)
    (at_ 0x100#32 false [(3#7, 0x00000001FFFFFFFF800000000000000A#128),
      (8#7, 0x8000FFFF00037FFFFFFF800012340002#128)]) 3#7 =
    some 0xFFFE00017FFE80017FFF80000001FFFE#128 := by decide
/-- V90. -/
theorem test_mpyui_V90 : result (.mpyui 3#7 8#7 3#10)
    (at_ 0x100#32 false [(3#7, 0x00000001FFFFFFFF800000000000000A#128),
      (8#7, 0x8000FFFF00037FFFFFFF800012340002#128)]) 3#7 =
    some 0x0002FFFD00017FFD0001800000000006#128 := by decide
/-- V91. -/
theorem test_mpya_V91 : result (.mpya 3#7 8#7 9#7 10#7)
    (at_ 0x100#32 false [(3#7, 0x00000001FFFFFFFF800000000000000A#128),
      (8#7, 0x8000FFFF00037FFFFFFF800012340002#128),
      (9#7, 0x8000FFFF0005FFFFFFFF8000FFFE0003#128),
      (10#7, 0x00000001FFFFFFFF800000000000000A#128)]) 3#7 =
    some 0x00000002FFFF8000C000000000000010#128 := by decide
/-- V92. -/
theorem test_mpyh_V92 : result (.mpyh 3#7 8#7 9#7)
    (at_ 0x100#32 false [(3#7, 0x00000001FFFFFFFF800000000000000A#128),
      (8#7, 0x8000FFFF00037FFFFFFF800012340002#128),
      (9#7, 0x8000FFFF0005FFFFFFFF8000FFFE0003#128)]) 3#7 =
    some 0x80000000FFFD000080000000369C0000#128 := by decide
/-- V93. -/
theorem test_mpyh_V93 : result (.mpyh 3#7 9#7 8#7)
    (at_ 0x100#32 false [(3#7, 0x00000001FFFFFFFF800000000000000A#128),
      (8#7, 0x8000FFFF00037FFFFFFF800012340002#128),
      (9#7, 0x8000FFFF0005FFFFFFFF8000FFFE0003#128)]) 3#7 =
    some 0x800000007FFB000080000000FFFC0000#128 := by decide
/-- V94. -/
theorem test_mpyhh_V94 : result (.mpyhh 3#7 8#7 9#7)
    (at_ 0x100#32 false [(3#7, 0x00000001FFFFFFFF800000000000000A#128),
      (8#7, 0x8000FFFF00037FFFFFFF800012340002#128),
      (9#7, 0x8000FFFF0005FFFFFFFF8000FFFE0003#128)]) 3#7 =
    some 0x400000000000000F00000001FFFFDB98#128 := by decide
/-- V96. -/
theorem test_mpyhha_V96 : result (.mpyhha 3#7 8#7 9#7)
    (at_ 0x100#32 false [(3#7, 0x00000001FFFFFFFF800000000000000A#128),
      (8#7, 0x8000FFFF00037FFFFFFF800012340002#128),
      (9#7, 0x8000FFFF0005FFFFFFFF8000FFFE0003#128)]) 3#7 =
    some 0x400000010000000E80000001FFFFDBA2#128 := by decide
/-- V95. -/
theorem test_mpyhhu_V95 : result (.mpyhhu 3#7 8#7 9#7)
    (at_ 0x100#32 false [(3#7, 0x00000001FFFFFFFF800000000000000A#128),
      (8#7, 0x8000FFFF00037FFFFFFF800012340002#128),
      (9#7, 0x8000FFFF0005FFFFFFFF8000FFFE0003#128)]) 3#7 =
    some 0x400000000000000FFFFE00011233DB98#128 := by decide
/-- V97. -/
theorem test_mpyhhau_V97 : result (.mpyhhau 3#7 8#7 9#7)
    (at_ 0x100#32 false [(3#7, 0x00000001FFFFFFFF800000000000000A#128),
      (8#7, 0x8000FFFF00037FFFFFFF800012340002#128),
      (9#7, 0x8000FFFF0005FFFFFFFF8000FFFE0003#128)]) 3#7 =
    some 0x400000010000000E7FFE00011233DBA2#128 := by decide
/-- V98. -/
theorem test_clz_V98 : result (.clz 3#7 4#7)
    (at_ 0x100#32 false [(3#7, 0x00000001FFFFFFFF800000000000000A#128),
      (4#7, 0x0000000000000001800000000000FFFF#128)]) 3#7 =
    some 0x000000200000001F0000000000000010#128 := by decide
/-- V99. -/
theorem test_clz_V99 : result (.clz 3#7 4#7)
    (at_ 0x100#32 false [(3#7, 0x00000001FFFFFFFF800000000000000A#128),
      (4#7, 0xFFFFFFFF7FFFFFFF0001000000000002#128)]) 3#7 =
    some 0x00000000000000010000000F0000001E#128 := by decide
/-- V100. -/
theorem test_cntb_V100 : result (.cntb 3#7 4#7)
    (at_ 0x100#32 false [(3#7, 0x00000001FFFFFFFF800000000000000A#128),
      (4#7, 0x00FF01807F55AA0FF0103C01FEEFC300#128)]) 3#7 =
    some 0x00080101070404040401040107070400#128 := by decide
/-- V101. -/
theorem test_fsm_V101 : result (.fsm 3#7 4#7)
    (at_ 0x100#32 false [(3#7, 0x00000001FFFFFFFF800000000000000A#128),
      (4#7, 0x00000000DEAD0001DEAD0002DEAD0003#128)]) 3#7 =
    some 0x00000000000000000000000000000000#128 := by decide
/-- V105. -/
theorem test_fsm_V105 : result (.fsm 3#7 4#7)
    (at_ 0x100#32 false [(3#7, 0x00000001FFFFFFFF800000000000000A#128),
      (4#7, 0x00000009DEAD0001DEAD0002DEAD0003#128)]) 3#7 =
    some 0xFFFFFFFF0000000000000000FFFFFFFF#128 := by decide
/-- V106. -/
theorem test_fsmh_V106 : result (.fsmh 3#7 4#7)
    (at_ 0x100#32 false [(3#7, 0x00000001FFFFFFFF800000000000000A#128),
      (4#7, 0x000000A5DEAD0001DEAD0002DEAD0003#128)]) 3#7 =
    some 0xFFFF0000FFFF00000000FFFF0000FFFF#128 := by decide
/-- V107. -/
theorem test_fsmh_V107 : result (.fsmh 3#7 4#7)
    (at_ 0x100#32 false [(3#7, 0x00000001FFFFFFFF800000000000000A#128),
      (4#7, 0xFFFFFF01DEAD0001DEAD0002DEAD0003#128)]) 3#7 =
    some 0x0000000000000000000000000000FFFF#128 := by decide
/-- V108. -/
theorem test_fsmb_V108 : result (.fsmb 3#7 4#7)
    (at_ 0x100#32 false [(3#7, 0x00000001FFFFFFFF800000000000000A#128),
      (4#7, 0x00008001DEAD0001DEAD0002DEAD0003#128)]) 3#7 =
    some 0xFF0000000000000000000000000000FF#128 := by decide
/-- V109. -/
theorem test_fsmb_V109 : result (.fsmb 3#7 4#7)
    (at_ 0x100#32 false [(3#7, 0x00000001FFFFFFFF800000000000000A#128),
      (4#7, 0xFFFF1234DEAD0001DEAD0002DEAD0003#128)]) 3#7 =
    some 0x000000FF0000FF000000FFFF00FF0000#128 := by decide
/-- V110. -/
theorem test_gb_V110 : result (.gb 3#7 4#7)
    (at_ 0x100#32 false [(3#7, 0x00000001FFFFFFFF800000000000000A#128),
      (4#7, 0xFFFFFFFF000000028000000100000000#128)]) 3#7 =
    some 0x0000000A000000000000000000000000#128 := by decide
/-- V113. -/
theorem test_gb_V113 : result (.gb 3#7 4#7)
    (at_ 0x100#32 false [(3#7, 0x00000001FFFFFFFF800000000000000A#128),
      (4#7, 0x00000001000000010000000100000001#128)]) 3#7 =
    some 0x0000000F000000000000000000000000#128 := by decide
/-- V111. -/
theorem test_gbh_V111 : result (.gbh 3#7 4#7)
    (at_ 0x100#32 false [(3#7, 0x00000001FFFFFFFF800000000000000A#128),
      (4#7, 0x000100000003FFFE8001000000000001#128)]) 3#7 =
    some 0x000000A9000000000000000000000000#128 := by decide
/-- V112. -/
theorem test_gbb_V112 : result (.gbb 3#7 4#7)
    (at_ 0x100#32 false [(3#7, 0x00000001FFFFFFFF800000000000000A#128),
      (4#7, 0x00FF01807F55AA0FF0103C01FEEFC300#128)]) 3#7 =
    some 0x00006D16000000000000000000000000#128 := by decide
/-- V114. -/
theorem test_avgb_V114 : result (.avgb 3#7 4#7 5#7)
    (at_ 0x100#32 false [(3#7, 0x00000001FFFFFFFF800000000000000A#128),
      (4#7, 0x00FFFF01807F102001020304FEFF0000#128),
      (5#7, 0x00FF00027F80201004030201FFFE01FF#128)]) 3#7 =
    some 0x00FF80028080181803030303FFFF0180#128 := by decide
/-- V115. -/
theorem test_absdb_V115 : result (.absdb 3#7 4#7 5#7)
    (at_ 0x100#32 false [(3#7, 0x00000001FFFFFFFF800000000000000A#128),
      (4#7, 0x00FFFF01807F102001020304FEFF0000#128),
      (5#7, 0x00FF00027F80201004030201FFFE01FF#128)]) 3#7 =
    some 0x0000FF010101101003010103010101FF#128 := by decide
/-- V116. -/
theorem test_sumb_V116 : result (.sumb 3#7 4#7 5#7)
    (at_ 0x100#32 false [(3#7, 0x00000001FFFFFFFF800000000000000A#128),
      (4#7, 0x00FFFF01807F102001020304FEFF0000#128),
      (5#7, 0x00FF00027F80201004030201FFFE01FF#128)]) 3#7 =
    some 0x010101FF012F012F000A000A02FD01FD#128 := by decide
/-- V117. -/
theorem test_sumb_V117 : result (.sumb 3#7 4#7 4#7)
    (at_ 0x100#32 false [(3#7, 0x00000001FFFFFFFF800000000000000A#128),
      (4#7, 0xFFFFFFFFFFFFFFFFFFFFFFFFFFFFFFFF#128)]) 3#7 =
    some 0x03FC03FC03FC03FC03FC03FC03FC03FC#128 := by decide
/-- V118. -/
theorem test_xsbh_V118 : result (.xsbh 3#7 4#7)
    (at_ 0x100#32 false [(3#7, 0x00000001FFFFFFFF800000000000000A#128),
      (4#7, 0x007F008012FFFF00000180807F7F00FF#128)]) 3#7 =
    some 0x007FFF80FFFF00000001FF80007FFFFF#128 := by decide
/-- V119. -/
theorem test_xshw_V119 : result (.xshw 3#7 4#7)
    (at_ 0x100#32 false [(3#7, 0x00000001FFFFFFFF800000000000000A#128),
      (4#7, 0x00007FFF000080001234FFFFFFFF0000#128)]) 3#7 =
    some 0x00007FFFFFFF8000FFFFFFFF00000000#128 := by decide
/-- V120. -/
theorem test_xswd_V120 : result (.xswd 3#7 4#7)
    (at_ 0x100#32 false [(3#7, 0x00000001FFFFFFFF800000000000000A#128),
      (4#7, 0x111111117FFFFFFF2222222280000000#128)]) 3#7 =
    some 0x000000007FFFFFFFFFFFFFFF80000000#128 := by decide
/-- V121. -/
theorem test_and_V121 : result (.and 3#7 4#7 5#7)
    (at_ 0x100#32 false [(4#7, 0xFFFF00000F0F0F0F1234567800000000#128),
      (5#7, 0xFF00FF0033333333FFFFFFFF00000000#128)]) 3#7 =
    some 0xFF000000030303031234567800000000#128 := by decide
/-- V122. -/
theorem test_andc_V122 : result (.andc 3#7 4#7 5#7)
    (at_ 0x100#32 false [(4#7, 0xFFFF00000F0F0F0F1234567800000000#128),
      (5#7, 0xFF00FF0033333333FFFFFFFF00000000#128)]) 3#7 =
    some 0x00FF00000C0C0C0C0000000000000000#128 := by decide
/-- V132. -/
theorem test_andbi_V132 : result (.andbi 3#7 4#7 15#10)
    (at_ 0x100#32 false [(4#7, 0xFFFF00000F0F0F0F1234567800000000#128)]) 3#7 =
    some 0x0F0F00000F0F0F0F0204060800000000#128 := by decide
/-- V133. -/
theorem test_andbi_V133 : result (.andbi 3#7 4#7 0x3ff#10)
    (at_ 0x100#32 false [(4#7, 0xFFFF00000F0F0F0F1234567800000000#128)]) 3#7 =
    some 0xFFFF00000F0F0F0F1234567800000000#128 := by decide
/-- V134. -/
theorem test_andhi_V134 : result (.andhi 3#7 4#7 0x300#10)
    (at_ 0x100#32 false [(4#7, 0xFFFF00000F0F0F0F1234567800000000#128)]) 3#7 =
    some 0xFF0000000F000F001200560000000000#128 := by decide
/-- V135. -/
theorem test_andi_V135 : result (.andi 3#7 4#7 0x300#10)
    (at_ 0x100#32 false [(4#7, 0xFFFF00000F0F0F0F1234567800000000#128)]) 3#7 =
    some 0xFFFF00000F0F0F001234560000000000#128 := by decide
/-- V136. -/
theorem test_andi_V136 : result (.andi 3#7 4#7 0x1ff#10)
    (at_ 0x100#32 false [(4#7, 0xFFFF00000F0F0F0F1234567800000000#128)]) 3#7 =
    some 0x000000000000010F0000007800000000#128 := by decide
/-- V123. -/
theorem test_or_V123 : result (.or 3#7 4#7 5#7)
    (at_ 0x100#32 false [(4#7, 0xFFFF00000F0F0F0F1234567800000000#128),
      (5#7, 0xFF00FF0033333333FFFFFFFF00000000#128)]) 3#7 =
    some 0xFFFFFF003F3F3F3FFFFFFFFF00000000#128 := by decide
/-- V129. -/
theorem test_or_V129 : result (.or 3#7 4#7 4#7)
    (at_ 0x100#32 false [(4#7, 0xFFFF00000F0F0F0F1234567800000000#128)]) 3#7 =
    some 0xFFFF00000F0F0F0F1234567800000000#128 := by decide
/-- V124. -/
theorem test_orc_V124 : result (.orc 3#7 4#7 5#7)
    (at_ 0x100#32 false [(4#7, 0xFFFF00000F0F0F0F1234567800000000#128),
      (5#7, 0xFF00FF0033333333FFFFFFFF00000000#128)]) 3#7 =
    some 0xFFFF00FFCFCFCFCF12345678FFFFFFFF#128 := by decide
/-- V137. -/
theorem test_orbi_V137 : result (.orbi 3#7 4#7 128#10)
    (at_ 0x100#32 false [(4#7, 0xFFFF00000F0F0F0F1234567800000000#128)]) 3#7 =
    some 0xFFFF80808F8F8F8F92B4D6F880808080#128 := by decide
/-- V138. -/
theorem test_orhi_V138 : result (.orhi 3#7 4#7 0x155#10)
    (at_ 0x100#32 false [(4#7, 0xFFFF00000F0F0F0F1234567800000000#128)]) 3#7 =
    some 0xFFFF01550F5F0F5F1375577D01550155#128 := by decide
/-- V139. -/
theorem test_ori_V139 : result (.ori 3#7 4#7 0x200#10)
    (at_ 0x100#32 false [(4#7, 0xFFFF00000F0F0F0F1234567800000000#128)]) 3#7 =
    some 0xFFFFFE00FFFFFF0FFFFFFE78FFFFFE00#128 := by decide
/-- V140. -/
theorem test_ori_V140 : result (.ori 3#7 4#7 0#10)
    (at_ 0x100#32 false [(4#7, 0xFFFF00000F0F0F0F1234567800000000#128)]) 3#7 =
    some 0xFFFF00000F0F0F0F1234567800000000#128 := by decide
/-- V145. -/
theorem test_orx_V145 : result (.orx 3#7 4#7) (at_ 0x100#32 false [(4#7, 0x00000001000000200000030000004000#128)]) 3#7 =
    some 0x00004321000000000000000000000000#128 := by decide
/-- V146. -/
theorem test_orx_V146 : result (.orx 3#7 4#7) (at_ 0x100#32 false [(4#7, 0x00000000000000000000000000000000#128)]) 3#7 =
    some 0x00000000000000000000000000000000#128 := by decide
/-- V125. -/
theorem test_xor_V125 : result (.xor 3#7 4#7 5#7)
    (at_ 0x100#32 false [(4#7, 0xFFFF00000F0F0F0F1234567800000000#128),
      (5#7, 0xFF00FF0033333333FFFFFFFF00000000#128)]) 3#7 =
    some 0x00FFFF003C3C3C3CEDCBA98700000000#128 := by decide
/-- V131. -/
theorem test_xor_V131 : result (.xor 3#7 4#7 4#7)
    (at_ 0x100#32 false [(4#7, 0xFFFF00000F0F0F0F1234567800000000#128)]) 3#7 =
    some 0x00000000000000000000000000000000#128 := by decide
/-- V141. -/
theorem test_xorbi_V141 : result (.xorbi 3#7 4#7 255#10)
    (at_ 0x100#32 false [(4#7, 0xFFFF00000F0F0F0F1234567800000000#128)]) 3#7 =
    some 0x0000FFFFF0F0F0F0EDCBA987FFFFFFFF#128 := by decide
/-- V142. -/
theorem test_xorhi_V142 : result (.xorhi 3#7 4#7 0x3ff#10)
    (at_ 0x100#32 false [(4#7, 0xFFFF00000F0F0F0F1234567800000000#128)]) 3#7 =
    some 0x0000FFFFF0F0F0F0EDCBA987FFFFFFFF#128 := by decide
/-- V143. -/
theorem test_xori_V143 : result (.xori 3#7 4#7 0x3ff#10)
    (at_ 0x100#32 false [(4#7, 0xFFFF00000F0F0F0F1234567800000000#128)]) 3#7 =
    some 0x0000FFFFF0F0F0F0EDCBA987FFFFFFFF#128 := by decide
/-- V144. -/
theorem test_xori_V144 : result (.xori 3#7 4#7 0x1ff#10)
    (at_ 0x100#32 false [(4#7, 0xFFFF00000F0F0F0F1234567800000000#128)]) 3#7 =
    some 0xFFFF01FF0F0F0EF012345787000001FF#128 := by decide
/-- V126. -/
theorem test_nand_V126 : result (.nand 3#7 4#7 5#7)
    (at_ 0x100#32 false [(4#7, 0xFFFF00000F0F0F0F1234567800000000#128),
      (5#7, 0xFF00FF0033333333FFFFFFFF00000000#128)]) 3#7 =
    some 0x00FFFFFFFCFCFCFCEDCBA987FFFFFFFF#128 := by decide
/-- V127. -/
theorem test_nor_V127 : result (.nor 3#7 4#7 5#7)
    (at_ 0x100#32 false [(4#7, 0xFFFF00000F0F0F0F1234567800000000#128),
      (5#7, 0xFF00FF0033333333FFFFFFFF00000000#128)]) 3#7 =
    some 0x000000FFC0C0C0C000000000FFFFFFFF#128 := by decide
/-- V130. -/
theorem test_nor_V130 : result (.nor 3#7 4#7 4#7)
    (at_ 0x100#32 false [(4#7, 0xFFFF00000F0F0F0F1234567800000000#128)]) 3#7 =
    some 0x0000FFFFF0F0F0F0EDCBA987FFFFFFFF#128 := by decide
/-- V128. -/
theorem test_eqv_V128 : result (.eqv 3#7 4#7 5#7)
    (at_ 0x100#32 false [(4#7, 0xFFFF00000F0F0F0F1234567800000000#128),
      (5#7, 0xFF00FF0033333333FFFFFFFF00000000#128)]) 3#7 =
    some 0xFF0000FFC3C3C3C312345678FFFFFFFF#128 := by decide
/-- V147. -/
theorem test_selb_V147 : result (.selb 3#7 4#7 5#7 6#7)
    (at_ 0x100#32 false [(4#7, 0xFFFF00000F0F0F0F1234567800000000#128),
      (5#7, 0xFF00FF0033333333FFFFFFFF00000000#128),
      (6#7, 0xFFFFFFFF00000000FF00FF000000FFFF#128)]) 3#7 =
    some 0xFF00FF000F0F0F0FFF34FF7800000000#128 := by decide
/-- V148. -/
theorem test_shufb_V148 : result (.shufb 3#7 4#7 5#7 6#7)
    (at_ 0x100#32 false [(4#7, 0xA0A1A2A3A4A5A6A7A8A9AAABACADAEAF#128),
      (5#7, 0xB0B1B2B3B4B5B6B7B8B9BABBBCBDBEBF#128),
      (6#7, 0x000F101F203F407F80BFC0DFE0FF0313#128)]) 3#7 =
    some 0xA0AFB0BFA0BFA0BF0000FFFF8080A3B3#128 := by decide
/-- V151. -/
theorem test_shufb_V151 : result (.shufb 3#7 4#7 5#7 6#7)
    (at_ 0x100#32 false [(4#7, 0xA0A1A2A3A4A5A6A7A8A9AAABACADAEAF#128),
      (5#7, 0xB0B1B2B3B4B5B6B7B8B9BABBBCBDBEBF#128),
      (6#7, 0x101112131415161718191A1B1C1D1E1F#128)]) 3#7 =
    some 0xB0B1B2B3B4B5B6B7B8B9BABBBCBDBEBF#128 := by decide
/-- V152. -/
theorem test_shl_V152 : result (.shl 3#7 4#7 5#7)
    (at_ 0x100#32 false [(4#7, 0x8000000112345678FFFFFFFF0000FFFF#128),
      (5#7, 0x00000000000000040000001F00000020#128)]) 3#7 =
    some 0x80000001234567808000000000000000#128 := by decide
/-- V153. -/
theorem test_shl_V153 : result (.shl 3#7 4#7 6#7)
    (at_ 0x100#32 false [(4#7, 0x8000000112345678FFFFFFFF0000FFFF#128),
      (6#7, 0x000000210000003F00000040FFFFFFFF#128)]) 3#7 =
    some 0x0000000000000000FFFFFFFF00000000#128 := by decide
/-- V174. -/
theorem test_shlh_V174 : result (.shlh 3#7 4#7 5#7)
    (at_ 0x100#32 false [(4#7, 0x80011234FFFF00FF000180007FFFAAAA#128),
      (5#7, 0x000000010004000F00100011001F0020#128)]) 3#7 =
    some 0x80012468FFF08000000000000000AAAA#128 := by decide
/-- V175. -/
theorem test_shlhi_V175 : result (.shlhi 3#7 4#7 4#7)
    (at_ 0x100#32 false [(4#7, 0x80011234FFFF00FF000180007FFFAAAA#128)]) 3#7 =
    some 0x00102340FFF00FF000100000FFF0AAA0#128 := by decide
/-- V177. -/
theorem test_shlhi_V177 : result (.shlhi 3#7 4#7 31#7)
    (at_ 0x100#32 false [(4#7, 0x80011234FFFF00FF000180007FFFAAAA#128)]) 3#7 =
    some 0x00000000000000000000000000000000#128 := by decide
/-- V154. -/
theorem test_shli_V154 : result (.shli 3#7 4#7 4#7)
    (at_ 0x100#32 false [(4#7, 0x8000000112345678FFFFFFFF0000FFFF#128)]) 3#7 =
    some 0x0000001023456780FFFFFFF0000FFFF0#128 := by decide
/-- V157. -/
theorem test_shli_V157 : result (.shli 3#7 4#7 63#7)
    (at_ 0x100#32 false [(4#7, 0x8000000112345678FFFFFFFF0000FFFF#128)]) 3#7 =
    some 0x00000000000000000000000000000000#128 := by decide
/-- V188. -/
theorem test_shlqbi_V188 : result (.shlqbi 3#7 4#7 5#7)
    (at_ 0x100#32 false [(4#7, 0x0123456789ABCDEFFEDCBA9876543210#128),
      (5#7, 0x00000003DEAD0001DEAD0002DEAD0003#128)]) 3#7 =
    some 0x091A2B3C4D5E6F7FF6E5D4C3B2A19080#128 := by decide
/-- V190. -/
theorem test_shlqbi_V190 : result (.shlqbi 3#7 4#7 5#7)
    (at_ 0x100#32 false [(4#7, 0x0123456789ABCDEFFEDCBA9876543210#128),
      (5#7, 0x0000000FDEAD0001DEAD0002DEAD0003#128)]) 3#7 =
    some 0x91A2B3C4D5E6F7FF6E5D4C3B2A190800#128 := by decide
/-- V191. -/
theorem test_shlqbii_V191 : result (.shlqbii 3#7 4#7 1#7)
    (at_ 0x100#32 false [(4#7, 0x0123456789ABCDEFFEDCBA9876543210#128)]) 3#7 =
    some 0x02468ACF13579BDFFDB97530ECA86420#128 := by decide
/-- V192. -/
theorem test_shlqbii_V192 : result (.shlqbii 3#7 4#7 7#7)
    (at_ 0x100#32 false [(4#7, 0x0123456789ABCDEFFEDCBA9876543210#128)]) 3#7 =
    some 0x91A2B3C4D5E6F7FF6E5D4C3B2A190800#128 := by decide
/-- V193. -/
theorem test_shlqby_V193 : result (.shlqby 3#7 4#7 5#7)
    (at_ 0x100#32 false [(4#7, 0x0123456789ABCDEFFEDCBA9876543210#128),
      (5#7, 0x00000003DEAD0001DEAD0002DEAD0003#128)]) 3#7 =
    some 0x6789ABCDEFFEDCBA9876543210000000#128 := by decide
/-- V197. -/
theorem test_shlqby_V197 : result (.shlqby 3#7 4#7 5#7)
    (at_ 0x100#32 false [(4#7, 0x0123456789ABCDEFFEDCBA9876543210#128),
      (5#7, 0x00000020DEAD0001DEAD0002DEAD0003#128)]) 3#7 =
    some 0x0123456789ABCDEFFEDCBA9876543210#128 := by decide
/-- V198. -/
theorem test_shlqbybi_V198 : result (.shlqbybi 3#7 4#7 5#7)
    (at_ 0x100#32 false [(4#7, 0x0123456789ABCDEFFEDCBA9876543210#128),
      (5#7, 0x0000001BDEAD0001DEAD0002DEAD0003#128)]) 3#7 =
    some 0x6789ABCDEFFEDCBA9876543210000000#128 := by decide
/-- V200. -/
theorem test_shlqbybi_V200 : result (.shlqbybi 3#7 4#7 5#7)
    (at_ 0x100#32 false [(4#7, 0x0123456789ABCDEFFEDCBA9876543210#128),
      (5#7, 0x00000107DEAD0001DEAD0002DEAD0003#128)]) 3#7 =
    some 0x0123456789ABCDEFFEDCBA9876543210#128 := by decide
/-- V201. -/
theorem test_shlqbyi_V201 : result (.shlqbyi 3#7 4#7 4#7)
    (at_ 0x100#32 false [(4#7, 0x0123456789ABCDEFFEDCBA9876543210#128)]) 3#7 =
    some 0x89ABCDEFFEDCBA987654321000000000#128 := by decide
/-- V203. -/
theorem test_shlqbyi_V203 : result (.shlqbyi 3#7 4#7 31#7)
    (at_ 0x100#32 false [(4#7, 0x0123456789ABCDEFFEDCBA9876543210#128)]) 3#7 =
    some 0x00000000000000000000000000000000#128 := by decide
/-- V158. -/
theorem test_rot_V158 : result (.rot 3#7 4#7 5#7)
    (at_ 0x100#32 false [(4#7, 0x8000000112345678FFFFFFFF0000FFFF#128),
      (5#7, 0x00000000000000040000001F00000020#128)]) 3#7 =
    some 0x8000000123456781FFFFFFFF0000FFFF#128 := by decide
/-- V159. -/
theorem test_rot_V159 : result (.rot 3#7 4#7 6#7)
    (at_ 0x100#32 false [(4#7, 0x8000000112345678FFFFFFFF0000FFFF#128),
      (6#7, 0x000000210000003F00000040FFFFFFFF#128)]) 3#7 =
    some 0x00000003091A2B3CFFFFFFFF80007FFF#128 := by decide
/-- V178. -/
theorem test_roth_V178 : result (.roth 3#7 4#7 5#7)
    (at_ 0x100#32 false [(4#7, 0x80011234FFFF00FF000180007FFFAAAA#128),
      (5#7, 0x000000010004000F00100011001F0020#128)]) 3#7 =
    some 0x80012468FFFF807F00010001BFFFAAAA#128 := by decide
/-- V179. -/
theorem test_rothi_V179 : result (.rothi 3#7 4#7 4#7)
    (at_ 0x100#32 false [(4#7, 0x80011234FFFF00FF000180007FFFAAAA#128)]) 3#7 =
    some 0x00182341FFFF0FF000100008FFF7AAAA#128 := by decide
/-- V180. -/
theorem test_rothi_V180 : result (.rothi 3#7 4#7 127#7)
    (at_ 0x100#32 false [(4#7, 0x80011234FFFF00FF000180007FFFAAAA#128)]) 3#7 =
    some 0xC000091AFFFF807F80004000BFFF5555#128 := by decide
/-- V160. -/
theorem test_roti_V160 : result (.roti 3#7 4#7 4#7)
    (at_ 0x100#32 false [(4#7, 0x8000000112345678FFFFFFFF0000FFFF#128)]) 3#7 =
    some 0x0000001823456781FFFFFFFF000FFFF0#128 := by decide
/-- V162. -/
theorem test_roti_V162 : result (.roti 3#7 4#7 63#7)
    (at_ 0x100#32 false [(4#7, 0x8000000112345678FFFFFFFF0000FFFF#128)]) 3#7 =
    some 0xC0000000091A2B3CFFFFFFFF80007FFF#128 := by decide
/-- V204. -/
theorem test_rotqbi_V204 : result (.rotqbi 3#7 4#7 5#7)
    (at_ 0x100#32 false [(4#7, 0x0123456789ABCDEFFEDCBA9876543210#128),
      (5#7, 0x00000003DEAD0001DEAD0002DEAD0003#128)]) 3#7 =
    some 0x091A2B3C4D5E6F7FF6E5D4C3B2A19080#128 := by decide
/-- V205. -/
theorem test_rotqbii_V205 : result (.rotqbii 3#7 4#7 4#7)
    (at_ 0x100#32 false [(4#7, 0x0123456789ABCDEFFEDCBA9876543210#128)]) 3#7 =
    some 0x123456789ABCDEFFEDCBA98765432100#128 := by decide
/-- V206. -/
theorem test_rotqby_V206 : result (.rotqby 3#7 4#7 5#7)
    (at_ 0x100#32 false [(4#7, 0x0123456789ABCDEFFEDCBA9876543210#128),
      (5#7, 0x00000003DEAD0001DEAD0002DEAD0003#128)]) 3#7 =
    some 0x6789ABCDEFFEDCBA9876543210012345#128 := by decide
/-- V208. -/
theorem test_rotqby_V208 : result (.rotqby 3#7 4#7 5#7)
    (at_ 0x100#32 false [(4#7, 0x0123456789ABCDEFFEDCBA9876543210#128),
      (5#7, 0x0000011ADEAD0001DEAD0002DEAD0003#128)]) 3#7 =
    some 0xBA98765432100123456789ABCDEFFEDC#128 := by decide
/-- V209. -/
theorem test_rotqbybi_V209 : result (.rotqbybi 3#7 4#7 5#7)
    (at_ 0x100#32 false [(4#7, 0x0123456789ABCDEFFEDCBA9876543210#128),
      (5#7, 0x0000001BDEAD0001DEAD0002DEAD0003#128)]) 3#7 =
    some 0x6789ABCDEFFEDCBA9876543210012345#128 := by decide
/-- V210. -/
theorem test_rotqbybi_V210 : result (.rotqbybi 3#7 4#7 5#7)
    (at_ 0x100#32 false [(4#7, 0x0123456789ABCDEFFEDCBA9876543210#128),
      (5#7, 0x00000098DEAD0001DEAD0002DEAD0003#128)]) 3#7 =
    some 0x6789ABCDEFFEDCBA9876543210012345#128 := by decide
/-- V211. -/
theorem test_rotqbyi_V211 : result (.rotqbyi 3#7 4#7 12#7)
    (at_ 0x100#32 false [(4#7, 0x0123456789ABCDEFFEDCBA9876543210#128)]) 3#7 =
    some 0x765432100123456789ABCDEFFEDCBA98#128 := by decide
/-- V213. -/
theorem test_rotqbyi_V213 : result (.rotqbyi 3#7 4#7 16#7)
    (at_ 0x100#32 false [(4#7, 0x0123456789ABCDEFFEDCBA9876543210#128)]) 3#7 =
    some 0x0123456789ABCDEFFEDCBA9876543210#128 := by decide
/-- V163. -/
theorem test_rotm_V163 : result (.rotm 3#7 4#7 5#7)
    (at_ 0x100#32 false [(4#7, 0x8000000112345678FFFFFFFF0000FFFF#128),
      (5#7, 0x00000000000000040000001F00000020#128)]) 3#7 =
    some 0x80000001000000000000000000000000#128 := by decide
/-- V164. -/
theorem test_rotm_V164 : result (.rotm 3#7 4#7 6#7)
    (at_ 0x100#32 false [(4#7, 0x8000000112345678FFFFFFFF0000FFFF#128),
      (6#7, 0x000000210000003F00000040FFFFFFFF#128)]) 3#7 =
    some 0x00000001091A2B3CFFFFFFFF00007FFF#128 := by decide
/-- V165. -/
theorem test_rotmi_V165 : result (.rotmi 3#7 4#7 124#7)
    (at_ 0x100#32 false [(4#7, 0x8000000112345678FFFFFFFF0000FFFF#128)]) 3#7 =
    some 0x08000000012345670FFFFFFF00000FFF#128 := by decide
/-- V169. -/
theorem test_rotmi_V169 : result (.rotmi 3#7 4#7 4#7)
    (at_ 0x100#32 false [(4#7, 0x8000000112345678FFFFFFFF0000FFFF#128)]) 3#7 =
    some 0x00000000000000000000000000000000#128 := by decide
/-- V181. -/
theorem test_rothm_V181 : result (.rothm 3#7 4#7 5#7)
    (at_ 0x100#32 false [(4#7, 0x80011234FFFF00FF000180007FFFAAAA#128),
      (5#7, 0x000000010004000F00100011001F0020#128)]) 3#7 =
    some 0x8001000000000000000000013FFFAAAA#128 := by decide
/-- V182. -/
theorem test_rothmi_V182 : result (.rothmi 3#7 4#7 124#7)
    (at_ 0x100#32 false [(4#7, 0x80011234FFFF00FF000180007FFFAAAA#128)]) 3#7 =
    some 0x080001230FFF000F0000080007FF0AAA#128 := by decide
/-- V183. -/
theorem test_rothmi_V183 : result (.rothmi 3#7 4#7 112#7)
    (at_ 0x100#32 false [(4#7, 0x80011234FFFF00FF000180007FFFAAAA#128)]) 3#7 =
    some 0x00000000000000000000000000000000#128 := by decide
/-- V170. -/
theorem test_rotma_V170 : result (.rotma 3#7 4#7 6#7)
    (at_ 0x100#32 false [(4#7, 0x8000000112345678FFFFFFFF0000FFFF#128),
      (6#7, 0x000000210000003F00000040FFFFFFFF#128)]) 3#7 =
    some 0xFFFFFFFF091A2B3CFFFFFFFF00007FFF#128 := by decide
/-- V171. -/
theorem test_rotmai_V171 : result (.rotmai 3#7 4#7 124#7)
    (at_ 0x100#32 false [(4#7, 0x8000000112345678FFFFFFFF0000FFFF#128)]) 3#7 =
    some 0xF800000001234567FFFFFFFF00000FFF#128 := by decide
/-- V173. -/
theorem test_rotmai_V173 : result (.rotmai 3#7 4#7 64#7)
    (at_ 0x100#32 false [(4#7, 0x8000000112345678FFFFFFFF0000FFFF#128)]) 3#7 =
    some 0x8000000112345678FFFFFFFF0000FFFF#128 := by decide
/-- V184. -/
theorem test_rotmah_V184 : result (.rotmah 3#7 4#7 5#7)
    (at_ 0x100#32 false [(4#7, 0x80011234FFFF00FF000180007FFFAAAA#128),
      (5#7, 0x000000010004000F00100011001F0020#128)]) 3#7 =
    some 0x80010000FFFF00000000FFFF3FFFAAAA#128 := by decide
/-- V185. -/
theorem test_rotmahi_V185 : result (.rotmahi 3#7 4#7 124#7)
    (at_ 0x100#32 false [(4#7, 0x80011234FFFF00FF000180007FFFAAAA#128)]) 3#7 =
    some 0xF8000123FFFF000F0000F80007FFFAAA#128 := by decide
/-- V187. -/
theorem test_rotmahi_V187 : result (.rotmahi 3#7 4#7 97#7)
    (at_ 0x100#32 false [(4#7, 0x80011234FFFF00FF000180007FFFAAAA#128)]) 3#7 =
    some 0xFFFF0000FFFF00000000FFFF0000FFFF#128 := by decide
/-- V214. -/
theorem test_rotqmbi_V214 : result (.rotqmbi 3#7 4#7 5#7)
    (at_ 0x100#32 false [(4#7, 0x0123456789ABCDEFFEDCBA9876543210#128),
      (5#7, 0xFFFFFFFDDEAD0001DEAD0002DEAD0003#128)]) 3#7 =
    some 0x002468ACF13579BDFFDB97530ECA8642#128 := by decide
/-- V215. -/
theorem test_rotqmbi_V215 : result (.rotqmbi 3#7 4#7 5#7)
    (at_ 0x100#32 false [(4#7, 0x0123456789ABCDEFFEDCBA9876543210#128),
      (5#7, 0x00000003DEAD0001DEAD0002DEAD0003#128)]) 3#7 =
    some 0x00091A2B3C4D5E6F7FF6E5D4C3B2A190#128 := by decide
/-- V216. -/
theorem test_rotqmbii_V216 : result (.rotqmbii 3#7 4#7 127#7)
    (at_ 0x100#32 false [(4#7, 0x0123456789ABCDEFFEDCBA9876543210#128)]) 3#7 =
    some 0x0091A2B3C4D5E6F7FF6E5D4C3B2A1908#128 := by decide
/-- V218. -/
theorem test_rotqmbii_V218 : result (.rotqmbii 3#7 4#7 0#7)
    (at_ 0x100#32 false [(4#7, 0x0123456789ABCDEFFEDCBA9876543210#128)]) 3#7 =
    some 0x0123456789ABCDEFFEDCBA9876543210#128 := by decide
/-- V219. -/
theorem test_rotqmby_V219 : result (.rotqmby 3#7 4#7 5#7)
    (at_ 0x100#32 false [(4#7, 0x0123456789ABCDEFFEDCBA9876543210#128),
      (5#7, 0xFFFFFFFDDEAD0001DEAD0002DEAD0003#128)]) 3#7 =
    some 0x0000000123456789ABCDEFFEDCBA9876#128 := by decide
/-- V223. -/
theorem test_rotqmby_V223 : result (.rotqmby 3#7 4#7 5#7)
    (at_ 0x100#32 false [(4#7, 0x0123456789ABCDEFFEDCBA9876543210#128),
      (5#7, 0x00000000DEAD0001DEAD0002DEAD0003#128)]) 3#7 =
    some 0x0123456789ABCDEFFEDCBA9876543210#128 := by decide
/-- V224. -/
theorem test_rotqmbybi_V224 : result (.rotqmbybi 3#7 4#7 5#7)
    (at_ 0x100#32 false [(4#7, 0x0123456789ABCDEFFEDCBA9876543210#128),
      (5#7, 0xFFFFFFE8DEAD0001DEAD0002DEAD0003#128)]) 3#7 =
    some 0x0000000123456789ABCDEFFEDCBA9876#128 := by decide
/-- V225. -/
theorem test_rotqmbybi_V225 : result (.rotqmbybi 3#7 4#7 5#7)
    (at_ 0x100#32 false [(4#7, 0x0123456789ABCDEFFEDCBA9876543210#128),
      (5#7, 0xFFFFFFEDDEAD0001DEAD0002DEAD0003#128)]) 3#7 =
    some 0x0000000123456789ABCDEFFEDCBA9876#128 := by decide
/-- V226. -/
theorem test_rotqmbyi_V226 : result (.rotqmbyi 3#7 4#7 124#7)
    (at_ 0x100#32 false [(4#7, 0x0123456789ABCDEFFEDCBA9876543210#128)]) 3#7 =
    some 0x000000000123456789ABCDEFFEDCBA98#128 := by decide
/-- V228. -/
theorem test_rotqmbyi_V228 : result (.rotqmbyi 3#7 4#7 0#7)
    (at_ 0x100#32 false [(4#7, 0x0123456789ABCDEFFEDCBA9876543210#128)]) 3#7 =
    some 0x0123456789ABCDEFFEDCBA9876543210#128 := by decide
/-- V244. -/
theorem test_ceqb_V244 : result (.ceqb 3#7 4#7 5#7)
    (at_ 0x100#32 false [(4#7, 0x05FF807F0001FE1005050505817EAA55#128),
      (5#7, 0x05017F80FF01FF0F04068505807F55AA#128)]) 3#7 =
    some 0xFF00000000FF0000000000FF00000000#128 := by decide
/-- V238. -/
theorem test_ceqh_V238 : result (.ceqh 3#7 4#7 5#7)
    (at_ 0x100#32 false [(4#7, 0x0005FFFF80007FFF000000FFFF000001#128),
      (5#7, 0x000500017FFF8000FFFF010000FF0001#128)]) 3#7 =
    some 0xFFFF000000000000000000000000FFFF#128 := by decide
/-- V229. -/
theorem test_ceq_V229 : result (.ceq 3#7 4#7 5#7)
    (at_ 0x100#32 false [(4#7, 0x00000005FFFFFFFF800000007FFFFFFF#128),
      (5#7, 0x00000005000000017FFFFFFF80000000#128)]) 3#7 =
    some 0xFFFFFFFF000000000000000000000000#128 := by decide
/-- V247. -/
theorem test_ceqbi_V247 : result (.ceqbi 3#7 4#7 5#10)
    (at_ 0x100#32 false [(4#7, 0x05FF807F0001FE1005050505817EAA55#128)]) 3#7 =
    some 0xFF00000000000000FFFFFFFF00000000#128 := by decide
/-- V249. -/
theorem test_ceqbi_V249 : result (.ceqbi 3#7 4#7 0x105#10)
    (at_ 0x100#32 false [(4#7, 0x05FF807F0001FE1005050505817EAA55#128)]) 3#7 =
    some 0xFF00000000000000FFFFFFFF00000000#128 := by decide
/-- V241. -/
theorem test_ceqhi_V241 : result (.ceqhi 3#7 4#7 0x3ff#10)
    (at_ 0x100#32 false [(4#7, 0x0005FFFF80007FFF000000FFFF000001#128)]) 3#7 =
    some 0x0000FFFF000000000000000000000000#128 := by decide
/-- V232. -/
theorem test_ceqi_V232 : result (.ceqi 3#7 4#7 5#10)
    (at_ 0x100#32 false [(4#7, 0x00000005FFFFFFFF800000007FFFFFFF#128)]) 3#7 =
    some 0xFFFFFFFF000000000000000000000000#128 := by decide
/-- V233. -/
theorem test_ceqi_V233 : result (.ceqi 3#7 4#7 0x3ff#10)
    (at_ 0x100#32 false [(4#7, 0x00000005FFFFFFFF800000007FFFFFFF#128)]) 3#7 =
    some 0x00000000FFFFFFFF0000000000000000#128 := by decide
/-- V245. -/
theorem test_cgtb_V245 : result (.cgtb 3#7 4#7 5#7)
    (at_ 0x100#32 false [(4#7, 0x05FF807F0001FE1005050505817EAA55#128),
      (5#7, 0x05017F80FF01FF0F04068505807F55AA#128)]) 3#7 =
    some 0x000000FFFF0000FFFF00FF00FF0000FF#128 := by decide
/-- V239. -/
theorem test_cgth_V239 : result (.cgth 3#7 4#7 5#7)
    (at_ 0x100#32 false [(4#7, 0x0005FFFF80007FFF000000FFFF000001#128),
      (5#7, 0x000500017FFF8000FFFF010000FF0001#128)]) 3#7 =
    some 0x000000000000FFFFFFFF000000000000#128 := by decide
/-- V230. -/
theorem test_cgt_V230 : result (.cgt 3#7 4#7 5#7)
    (at_ 0x100#32 false [(4#7, 0x00000005FFFFFFFF800000007FFFFFFF#128),
      (5#7, 0x00000005000000017FFFFFFF80000000#128)]) 3#7 =
    some 0x000000000000000000000000FFFFFFFF#128 := by decide
/-- V250. -/
theorem test_cgtbi_V250 : result (.cgtbi 3#7 4#7 0#10)
    (at_ 0x100#32 false [(4#7, 0x05FF807F0001FE1005050505817EAA55#128)]) 3#7 =
    some 0xFF0000FF00FF00FFFFFFFFFF00FF00FF#128 := by decide
/-- V251. -/
theorem test_cgtbi_V251 : result (.cgtbi 3#7 4#7 0x380#10)
    (at_ 0x100#32 false [(4#7, 0x05FF807F0001FE1005050505817EAA55#128)]) 3#7 =
    some 0xFFFF00FFFFFFFFFFFFFFFFFFFFFFFFFF#128 := by decide
/-- V242. -/
theorem test_cgthi_V242 : result (.cgthi 3#7 4#7 0#10)
    (at_ 0x100#32 false [(4#7, 0x0005FFFF80007FFF000000FFFF000001#128)]) 3#7 =
    some 0xFFFF00000000FFFF0000FFFF0000FFFF#128 := by decide
/-- V234. -/
theorem test_cgti_V234 : result (.cgti 3#7 4#7 4#10)
    (at_ 0x100#32 false [(4#7, 0x00000005FFFFFFFF800000007FFFFFFF#128)]) 3#7 =
    some 0xFFFFFFFF0000000000000000FFFFFFFF#128 := by decide
/-- V235. -/
theorem test_cgti_V235 : result (.cgti 3#7 4#7 0x3ff#10)
    (at_ 0x100#32 false [(4#7, 0x00000005FFFFFFFF800000007FFFFFFF#128)]) 3#7 =
    some 0xFFFFFFFF0000000000000000FFFFFFFF#128 := by decide
/-- V246. -/
theorem test_clgtb_V246 : result (.clgtb 3#7 4#7 5#7)
    (at_ 0x100#32 false [(4#7, 0x05FF807F0001FE1005050505817EAA55#128),
      (5#7, 0x05017F80FF01FF0F04068505807F55AA#128)]) 3#7 =
    some 0x00FFFF00000000FFFF000000FF00FF00#128 := by decide
/-- V240. -/
theorem test_clgth_V240 : result (.clgth 3#7 4#7 5#7)
    (at_ 0x100#32 false [(4#7, 0x0005FFFF80007FFF000000FFFF000001#128),
      (5#7, 0x000500017FFF8000FFFF010000FF0001#128)]) 3#7 =
    some 0x0000FFFFFFFF000000000000FFFF0000#128 := by decide
/-- V231. -/
theorem test_clgt_V231 : result (.clgt 3#7 4#7 5#7)
    (at_ 0x100#32 false [(4#7, 0x00000005FFFFFFFF800000007FFFFFFF#128),
      (5#7, 0x00000005000000017FFFFFFF80000000#128)]) 3#7 =
    some 0x00000000FFFFFFFFFFFFFFFF00000000#128 := by decide
/-- V252. -/
theorem test_clgtbi_V252 : result (.clgtbi 3#7 4#7 127#10)
    (at_ 0x100#32 false [(4#7, 0x05FF807F0001FE1005050505817EAA55#128)]) 3#7 =
    some 0x00FFFF000000FF0000000000FF00FF00#128 := by decide
/-- V253. -/
theorem test_clgtbi_V253 : result (.clgtbi 3#7 4#7 0x3ff#10)
    (at_ 0x100#32 false [(4#7, 0x05FF807F0001FE1005050505817EAA55#128)]) 3#7 =
    some 0x00000000000000000000000000000000#128 := by decide
/-- V243. -/
theorem test_clgthi_V243 : result (.clgthi 3#7 4#7 255#10)
    (at_ 0x100#32 false [(4#7, 0x0005FFFF80007FFF000000FFFF000001#128)]) 3#7 =
    some 0x0000FFFFFFFFFFFF00000000FFFF0000#128 := by decide
/-- V236. -/
theorem test_clgti_V236 : result (.clgti 3#7 4#7 0x3ff#10)
    (at_ 0x100#32 false [(4#7, 0x00000005FFFFFFFF800000007FFFFFFF#128)]) 3#7 =
    some 0x00000000000000000000000000000000#128 := by decide
/-- V237. -/
theorem test_clgti_V237 : result (.clgti 3#7 4#7 5#10)
    (at_ 0x100#32 false [(4#7, 0x00000005FFFFFFFF800000007FFFFFFF#128)]) 3#7 =
    some 0x00000000FFFFFFFFFFFFFFFFFFFFFFFF#128 := by decide
/-- V330. -/
theorem test_fa_V330 : result (.fa 3#7 4#7 5#7)
    (at_ 0x100#32 false [(4#7, 0x4B7FFFFF008000007E800000C0700000#128),
      (5#7, 0x3F800000010000007E0000003E800000#128)]) 3#7 =
    some 0x4B800000014000007EC00000C0600000#128 := by decide +kernel
/-- V331. -/
theorem test_fs_V331 : result (.fs 3#7 4#7 5#7)
    (at_ 0x100#32 false [(4#7, 0x4B7FFFFF008000007E800000C0700000#128),
      (5#7, 0x3F800000010000007E0000003E800000#128)]) 3#7 =
    some 0x4B7FFFFE808000007E000000C0800000#128 := by decide +kernel
/-- V332. -/
theorem test_fs_V332 : result (.fs 3#7 5#7 4#7)
    (at_ 0x100#32 false [(4#7, 0x4B7FFFFF008000007E800000C0700000#128),
      (5#7, 0x3F800000010000007E0000003E800000#128)]) 3#7 =
    some 0xCB7FFFFE00800000FE00000040800000#128 := by decide +kernel
/-- V333. -/
theorem test_fm_V333 : result (.fm 3#7 4#7 7#7)
    (at_ 0x100#32 false [(4#7, 0x4B7FFFFF008000007E800000C0700000#128),
      (7#7, 0x4000000071800000400000003E800000#128)]) 3#7 =
    some 0x4BFFFFFF328000007F000000BF700000#128 := by decide +kernel
/-- V334. -/
theorem test_fma_V334 : result (.fma 3#7 4#7 7#7 6#7)
    (at_ 0x100#32 false [(4#7, 0x4B7FFFFF008000007E800000C0700000#128),
      (6#7, 0x4000000032000000FE8000003F800000#128),
      (7#7, 0x4000000071800000400000003E800000#128)]) 3#7 =
    some 0x4C00000032C000007E8000003D800000#128 := by decide +kernel
/-- V337. -/
theorem test_fma_V337 : result (.fma 4#7 4#7 7#7 6#7)
    (at_ 0x100#32 false [(4#7, 0x4B7FFFFF008000007E800000C0700000#128),
      (6#7, 0x4000000032000000FE8000003F800000#128),
      (7#7, 0x4000000071800000400000003E800000#128)]) 4#7 =
    some 0x4C00000032C000007E8000003D800000#128 := by decide +kernel
/-- V335. -/
theorem test_fms_V335 : result (.fms 3#7 4#7 7#7 6#7)
    (at_ 0x100#32 false [(4#7, 0x4B7FFFFF008000007E800000C0700000#128),
      (6#7, 0x4000000032000000FE8000003F800000#128),
      (7#7, 0x4000000071800000400000003E800000#128)]) 3#7 =
    some 0x4BFFFFFE320000007F400000BFF80000#128 := by decide +kernel
/-- V336. -/
theorem test_fnms_V336 : result (.fnms 3#7 4#7 7#7 6#7)
    (at_ 0x100#32 false [(4#7, 0x4B7FFFFF008000007E800000C0700000#128),
      (6#7, 0x4000000032000000FE8000003F800000#128),
      (7#7, 0x4000000071800000400000003E800000#128)]) 3#7 =
    some 0xCBFFFFFEB2000000FF4000003FF80000#128 := by decide +kernel
/-- V338. -/
theorem test_dfa_V338 : result (.dfa 3#7 4#7 5#7)
    (at_ 0x100#32 false [(3#7, 0x40000000000000003E80000000000000#128),
      (4#7, 0x433FFFFFFFFFFFFF0010000000000000#128),
      (5#7, 0x3FF00000000000000020000000000000#128)]) 3#7 =
    some 0x43400000000000000028000000000000#128 := by decide +kernel
/-- V339. -/
theorem test_dfs_V339 : result (.dfs 3#7 4#7 5#7)
    (at_ 0x100#32 false [(3#7, 0x40000000000000003E80000000000000#128),
      (4#7, 0x433FFFFFFFFFFFFF0010000000000000#128),
      (5#7, 0x3FF00000000000000020000000000000#128)]) 3#7 =
    some 0x433FFFFFFFFFFFFE8010000000000000#128 := by decide +kernel
/-- V340. -/
theorem test_dfm_V340 : result (.dfm 3#7 4#7 7#7)
    (at_ 0x100#32 false [(3#7, 0x40000000000000003E80000000000000#128),
      (4#7, 0x433FFFFFFFFFFFFF0010000000000000#128),
      (7#7, 0x40000000000000007E70000000000000#128)]) 3#7 =
    some 0x434FFFFFFFFFFFFF3E90000000000000#128 := by decide +kernel
/-- V341. -/
theorem test_dfma_V341 : result (.dfma 3#7 4#7 7#7)
    (at_ 0x100#32 false [(3#7, 0x40000000000000003E80000000000000#128),
      (4#7, 0x433FFFFFFFFFFFFF0010000000000000#128),
      (7#7, 0x40000000000000007E70000000000000#128)]) 3#7 =
    some 0x43500000000000003E98000000000000#128 := by decide +kernel
/-- V342. -/
theorem test_dfms_V342 : result (.dfms 3#7 4#7 7#7)
    (at_ 0x100#32 false [(3#7, 0x40000000000000003E80000000000000#128),
      (4#7, 0x433FFFFFFFFFFFFF0010000000000000#128),
      (7#7, 0x40000000000000007E70000000000000#128)]) 3#7 =
    some 0x434FFFFFFFFFFFFE3E80000000000000#128 := by decide +kernel
/-- V343. -/
theorem test_dfnms_V343 : result (.dfnms 3#7 4#7 7#7)
    (at_ 0x100#32 false [(3#7, 0x40000000000000003E80000000000000#128),
      (4#7, 0x433FFFFFFFFFFFFF0010000000000000#128),
      (7#7, 0x40000000000000007E70000000000000#128)]) 3#7 =
    some 0xC34FFFFFFFFFFFFEBE80000000000000#128 := by decide +kernel
/-- V344. -/
theorem test_dfnma_V344 : result (.dfnma 3#7 4#7 7#7)
    (at_ 0x100#32 false [(3#7, 0x40000000000000003E80000000000000#128),
      (4#7, 0x433FFFFFFFFFFFFF0010000000000000#128),
      (7#7, 0x40000000000000007E70000000000000#128)]) 3#7 =
    some 0xC350000000000000BE98000000000000#128 := by decide +kernel
/-- V345. -/
theorem test_fesd_V345 : result (.fesd 3#7 4#7)
    (at_ 0x100#32 false [(3#7, 0x40000000000000003E80000000000000#128),
      (4#7, 0x4B7FFFFFDEADBEEF008000007FFFFFFF#128)]) 3#7 =
    some 0x416FFFFFE00000003810000000000000#128 := by decide +kernel
/-- V346. -/
theorem test_frds_V346 : result (.frds 3#7 4#7)
    (at_ 0x100#32 false [(3#7, 0x40000000000000003E80000000000000#128),
      (4#7, 0x416FFFFFE00000003810000000000000#128)]) 3#7 =
    some 0x4B7FFFFF000000000080000000000000#128 := by decide +kernel
/-- V347. -/
theorem test_cflts_V347 : result (.cflts 3#7 4#7 0#8)
    (at_ 0x100#32 false [(3#7, 0x40000000000000003E80000000000000#128),
      (4#7, 0x3F800000BF8000004000000000000000#128)]) 3#7 =
    some 0x00000001FFFFFFFF0000000200000000#128 := by decide +kernel
/-- V352. -/
theorem test_cflts_V352 : result (.cflts 3#7 4#7 2#8)
    (at_ 0x100#32 false [(3#7, 0x40000000000000003E80000000000000#128),
      (4#7, 0x000000003F0000004B7FFFFFC0700000#128)]) 3#7 =
    some 0x000000000000000203FFFFFCFFFFFFF1#128 := by decide +kernel
/-- V353. -/
theorem test_cfltu_V353 : result (.cfltu 3#7 4#7 0#8)
    (at_ 0x100#32 false [(3#7, 0x40000000000000003E80000000000000#128),
      (4#7, 0x3F800000BF8000004000000000000000#128)]) 3#7 =
    some 0x00000001000000000000000200000000#128 := by decide +kernel
/-- V355. -/
theorem test_cfltu_V355 : result (.cfltu 3#7 4#7 8#8)
    (at_ 0x100#32 false [(3#7, 0x40000000000000003E80000000000000#128),
      (4#7, 0x000000003F0000004B7FFFFFC0700000#128)]) 3#7 =
    some 0x0000000000000080FFFFFF0000000000#128 := by decide +kernel
/-- V356. -/
theorem test_csflt_V356 : result (.csflt 3#7 4#7 0#8)
    (at_ 0x100#32 false [(3#7, 0x40000000000000003E80000000000000#128),
      (4#7, 0x00000001FFFFFFFF8000000000FFFFFF#128)]) 3#7 =
    some 0x3F800000BF800000CF0000004B7FFFFF#128 := by decide +kernel
/-- V361. -/
theorem test_csflt_V361 : result (.csflt 3#7 4#7 5#8)
    (at_ 0x100#32 false [(3#7, 0x40000000000000003E80000000000000#128),
      (4#7, 0x00000000000000000000000000000020#128)]) 3#7 =
    some 0x0000000000000000000000003F800000#128 := by decide +kernel
/-- V359. -/
theorem test_cuflt_V359 : result (.cuflt 3#7 4#7 0#8)
    (at_ 0x100#32 false [(3#7, 0x40000000000000003E80000000000000#128),
      (4#7, 0x00000001FFFFFF008000000000FFFFFF#128)]) 3#7 =
    some 0x3F8000004F7FFFFF4F0000004B7FFFFF#128 := by decide +kernel
/-- V360. -/
theorem test_cuflt_V360 : result (.cuflt 3#7 4#7 32#8)
    (at_ 0x100#32 false [(3#7, 0x40000000000000003E80000000000000#128),
      (4#7, 0x00000001FFFFFF008000000000FFFFFF#128)]) 3#7 =
    some 0x2F8000003F7FFFFF3F0000003B7FFFFF#128 := by decide +kernel
/-- V362. -/
theorem test_fceq_V362 : result (.fceq 3#7 4#7 5#7)
    (at_ 0x100#32 false [(3#7, 0x40000000000000003E80000000000000#128),
      (4#7, 0x0000000000800000FEFFFFFF4B7FFFFF#128),
      (5#7, 0x00000000808000007EFFFFFF4B800000#128)]) 3#7 =
    some 0xFFFFFFFF000000000000000000000000#128 := by decide +kernel
/-- V363. -/
theorem test_fcmeq_V363 : result (.fcmeq 3#7 4#7 5#7)
    (at_ 0x100#32 false [(3#7, 0x40000000000000003E80000000000000#128),
      (4#7, 0x0000000000800000FEFFFFFF4B7FFFFF#128),
      (5#7, 0x00000000808000007EFFFFFF4B800000#128)]) 3#7 =
    some 0xFFFFFFFFFFFFFFFFFFFFFFFF00000000#128 := by decide +kernel
/-- V364. -/
theorem test_fcgt_V364 : result (.fcgt 3#7 4#7 5#7)
    (at_ 0x100#32 false [(3#7, 0x40000000000000003E80000000000000#128),
      (4#7, 0x0000000000800000FEFFFFFF4B7FFFFF#128),
      (5#7, 0x00000000808000007EFFFFFF4B800000#128)]) 3#7 =
    some 0x00000000FFFFFFFF0000000000000000#128 := by decide +kernel
/-- V365. -/
theorem test_fcgt_V365 : result (.fcgt 3#7 5#7 4#7)
    (at_ 0x100#32 false [(3#7, 0x40000000000000003E80000000000000#128),
      (4#7, 0x0000000000800000FEFFFFFF4B7FFFFF#128),
      (5#7, 0x00000000808000007EFFFFFF4B800000#128)]) 3#7 =
    some 0x0000000000000000FFFFFFFFFFFFFFFF#128 := by decide +kernel
/-- V366. -/
theorem test_fcmgt_V366 : result (.fcmgt 3#7 4#7 5#7)
    (at_ 0x100#32 false [(3#7, 0x40000000000000003E80000000000000#128),
      (4#7, 0x0000000000800000FEFFFFFF4B7FFFFF#128),
      (5#7, 0x00000000808000007EFFFFFF4B800000#128)]) 3#7 =
    some 0x00000000000000000000000000000000#128 := by decide +kernel
/-- V367. -/
theorem test_fcmgt_V367 : result (.fcmgt 3#7 5#7 4#7)
    (at_ 0x100#32 false [(3#7, 0x40000000000000003E80000000000000#128),
      (4#7, 0x0000000000800000FEFFFFFF4B7FFFFF#128),
      (5#7, 0x00000000808000007EFFFFFF4B800000#128)]) 3#7 =
    some 0x000000000000000000000000FFFFFFFF#128 := by decide +kernel

/-! Stores: what a load finds there, and Dirty. -/

/-- V18. -/
theorem test_stqd_V18 : stored (.stqd 6#7 0x20#14 4#7)
    (at_ 0x100#32 false [(4#7, 0x00001003000000000000000000000000#128),
      (6#7, 0x00112233445566778899AABBCCDDEEFF#128)]) 0x1020 =
    some (0x00112233445566778899AABBCCDDEEFF#128, [0x1020]) := by decide +kernel
/-- V20. -/
theorem test_stqd_V20 : stored (.stqd 6#7 0x10#14 6#7)
    (at_ 0x100#32 false [(6#7, 0x00112233445566778899AABBCCDDEEFF#128)]) 0x12240 =
    some (0x00112233445566778899AABBCCDDEEFF#128, [0x12240]) := by decide +kernel
/-- V21. -/
theorem test_stqx_V21 : stored (.stqx 6#7 4#7 5#7)
    (at_ 0x100#32 false [(4#7, 0x0003FFFF000000000000000000000000#128),
      (5#7, 0x00000012000000000000000000000000#128),
      (6#7, 0x00112233445566778899AABBCCDDEEFF#128)]) 0x10 =
    some (0x00112233445566778899AABBCCDDEEFF#128, [0x10]) := by decide +kernel
/-- V22. -/
theorem test_stqa_V22 : stored (.stqa 6#7 0x3FFFC#18)
    (at_ 0x100#32 false [(6#7, 0x00112233445566778899AABBCCDDEEFF#128)]) 0x3FFF0 =
    some (0x00112233445566778899AABBCCDDEEFF#128, [0x3FFF0]) := by decide +kernel
/-- V24. -/
theorem test_stqr_V24 : stored (.stqr 6#7 0x3FFC0#18)
    (at_ 0x100#32 false [(6#7, 0x00112233445566778899AABBCCDDEEFF#128)]) 0xC0 =
    some (0x00112233445566778899AABBCCDDEEFF#128, [0xC0]) := by decide +kernel

/-! Halts. -/

/-- The registers of V254 to V270. -/
def haltState : State :=
  at_ 0x100#32 false [(4#7, 0x00000005FFFFFFFF800000007FFFFFFF#128),
  (5#7, 0x00000005000000017FFFFFFF80000000#128),
  (6#7, 0xFFFFFFFF000000000000000000000000#128)]

/-- V254. -/
theorem test_heq_V254 : endsAs (.heq 0#7 4#7 5#7) haltState = some (.halted, 0x100#32) := by decide
/-- V255. -/
theorem test_heq_V255 : endsAs (.heq 0#7 4#7 6#7) haltState = some (.running, 0x104#32) := by decide
/-- V258. -/
theorem test_heqi_V258 : endsAs (.heqi 0#7 4#7 6#10) haltState = some (.running, 0x104#32) := by decide
/-- V259. -/
theorem test_heqi_V259 : endsAs (.heqi 0#7 6#7 0x3FF#10) haltState = some (.halted, 0x100#32) := by decide
/-- V260. -/
theorem test_hgt_V260 : endsAs (.hgt 0#7 4#7 6#7) haltState = some (.halted, 0x100#32) := by decide
/-- V261. -/
theorem test_hgt_V261 : endsAs (.hgt 0#7 6#7 4#7) haltState = some (.running, 0x104#32) := by decide
/-- V263. -/
theorem test_hgti_V263 : endsAs (.hgti 0#7 6#7 0x3FE#10) haltState = some (.halted, 0x100#32) := by decide
/-- V264. -/
theorem test_hgti_V264 : endsAs (.hgti 0#7 4#7 5#10) haltState = some (.running, 0x104#32) := by decide
/-- V266. -/
theorem test_hlgt_V266 : endsAs (.hlgt 0#7 6#7 4#7) haltState = some (.halted, 0x100#32) := by decide
/-- V267. -/
theorem test_hlgt_V267 : endsAs (.hlgt 0#7 4#7 6#7) haltState = some (.running, 0x104#32) := by decide
/-- V269. -/
theorem test_hlgti_V269 : endsAs (.hlgti 0#7 4#7 0x3FF#10) haltState = some (.running, 0x104#32) := by decide
/-- V270. -/
theorem test_hlgti_V270 : endsAs (.hlgti 0#7 6#7 0x3FE#10) haltState = some (.halted, 0x100#32) := by decide

/-! Branches, returns and hints. -/

/-- The registers of V271 to V329. -/
def branchState (pc : Word) (ie : Bool) (count : Word) : State :=
  { at_ pc ie [(4#7, 0x00001237000000000000000000000000#128), (5#7, 0x00000000FFFFFFFFFFFFFFFFFFFFFFFF#128),
    (6#7, 0x00010000000000000000000000000000#128), (7#7, 0x00040124000000000000000000000000#128)] with srr0 := 0x2468#32, script := [⟨false, count, none, false⟩] }

/-- V271. -/
theorem test_br_V271 : goesTo (.br 64#18) (branchState 0x100#32 false 0#32) = some (0x140#32, false) := by decide
/-- V272. -/
theorem test_br_V272 : goesTo (.br 0x3ffc0#18) (branchState 0x100#32 false 0#32) = some (0xC0#32, false) := by decide
/-- V277. -/
theorem test_bra_V277 : goesTo (.bra 64#18) (branchState 0x100#32 false 0#32) = some (0x40#32, false) := by decide
/-- V278. -/
theorem test_bra_V278 : goesTo (.bra 0x3fffc#18) (branchState 0x100#32 false 0#32) = some (0x3FFFC#32, false) := by decide
/-- V280. -/
theorem test_brsl_V280 : linksTo (.brsl 0#7 64#18) (branchState 0x100#32 false 0#32) 0#7 =
    some (0x140#32, false, 0x00000104000000000000000000000000#128) := by decide
/-- V281. -/
theorem test_brsl_V281 : linksTo (.brsl 0#7 8#18) (branchState 0x3FFFC#32 false 0#32) 0#7 =
    some (0x4#32, false, 0x00000000000000000000000000000000#128) := by decide
/-- V282. -/
theorem test_brasl_V282 : linksTo (.brasl 0#7 0x2000#18) (branchState 0x100#32 false 0#32) 0#7 =
    some (0x2000#32, false, 0x00000104000000000000000000000000#128) := by decide
/-- V283. -/
theorem test_bi_V283 : goesTo (.bi 4#7) (branchState 0x100#32 false 0#32) = some (0x1234#32, false) := by decide
/-- V284. -/
theorem test_bi_V284 : goesTo (.bi 7#7) (branchState 0x100#32 false 0#32) = some (0x124#32, false) := by decide
/-- V285. -/
theorem test_bid_V285 : goesTo (.bid 4#7) (branchState 0x100#32 true 0#32) = some (0x1234#32, false) := by decide
/-- V286. -/
theorem test_bie_V286 : goesTo (.bie 4#7) (branchState 0x100#32 false 0#32) = some (0x1234#32, true) := by decide
/-- V288. -/
theorem test_bisl_V288 : linksTo (.bisl 0#7 4#7) (branchState 0x100#32 false 0#32) 0#7 =
    some (0x1234#32, false, 0x00000104000000000000000000000000#128) := by decide
/-- V289. -/
theorem test_bisl_V289 : linksTo (.bisl 4#7 4#7) (branchState 0x100#32 false 0#32) 4#7 =
    some (0x1234#32, false, 0x00000104000000000000000000000000#128) := by decide
/-- V290. -/
theorem test_bisld_V290 : linksTo (.bisld 0#7 4#7) (branchState 0x100#32 true 0#32) 0#7 =
    some (0x1234#32, false, 0x00000104000000000000000000000000#128) := by decide
/-- V291. -/
theorem test_bisle_V291 : linksTo (.bisle 0#7 4#7) (branchState 0x100#32 false 0#32) 0#7 =
    some (0x1234#32, true, 0x00000104000000000000000000000000#128) := by decide
/-- V292. -/
theorem test_bisled_V292 : linksTo (.bisled 0#7 4#7) (branchState 0x100#32 false 0#32) 0#7 =
    some (0x104#32, false, 0x00000104000000000000000000000000#128) := by decide
/-- V293. -/
theorem test_bisled_V293 : linksTo (.bisled 0#7 4#7) (branchState 0x100#32 false 1#32) 0#7 =
    some (0x1234#32, false, 0x00000104000000000000000000000000#128) := by decide
/-- V294. -/
theorem test_bisledd_V294 : linksTo (.bisledd 0#7 4#7) (branchState 0x100#32 true 1#32) 0#7 =
    some (0x1234#32, false, 0x00000104000000000000000000000000#128) := by decide
/-- V295. -/
theorem test_bisledd_V295 : linksTo (.bisledd 0#7 4#7) (branchState 0x100#32 true 0#32) 0#7 =
    some (0x104#32, true, 0x00000104000000000000000000000000#128) := by decide
/-- V296. -/
theorem test_bislede_V296 : linksTo (.bislede 0#7 4#7) (branchState 0x100#32 false 2#32) 0#7 =
    some (0x1234#32, true, 0x00000104000000000000000000000000#128) := by decide
/-- V297. -/
theorem test_bislede_V297 : linksTo (.bislede 0#7 4#7) (branchState 0x100#32 false 0#32) 0#7 =
    some (0x104#32, false, 0x00000104000000000000000000000000#128) := by decide
/-- V298. -/
theorem test_iret_V298 : goesTo (.iret 0#7) (branchState 0x100#32 false 0#32) = some (0x2468#32, false) := by decide
/-- V299. -/
theorem test_iretd_V299 : goesTo (.iretd 0#7) (branchState 0x100#32 true 0#32) = some (0x2468#32, false) := by decide
/-- V300. -/
theorem test_irete_V300 : goesTo (.irete 0#7) (branchState 0x100#32 false 0#32) = some (0x2468#32, true) := by decide
/-- V301. -/
theorem test_iret_V301 : goesTo (.iret 9#7) (branchState 0x100#32 false 0#32) = some (0x2468#32, false) := by decide
/-- V302. -/
theorem test_brz_V302 : goesTo (.brz 5#7 64#18) (branchState 0x100#32 false 0#32) = some (0x140#32, false) := by decide
/-- V303. -/
theorem test_brz_V303 : goesTo (.brz 6#7 64#18) (branchState 0x100#32 false 0#32) = some (0x104#32, false) := by decide
/-- V304. -/
theorem test_brnz_V304 : goesTo (.brnz 6#7 64#18) (branchState 0x100#32 false 0#32) = some (0x140#32, false) := by decide
/-- V305. -/
theorem test_brnz_V305 : goesTo (.brnz 5#7 64#18) (branchState 0x100#32 false 0#32) = some (0x104#32, false) := by decide
/-- V306. -/
theorem test_brhz_V306 : goesTo (.brhz 6#7 64#18) (branchState 0x100#32 false 0#32) = some (0x140#32, false) := by decide
/-- V307. -/
theorem test_brhz_V307 : goesTo (.brhz 4#7 64#18) (branchState 0x100#32 false 0#32) = some (0x104#32, false) := by decide
/-- V308. -/
theorem test_brhnz_V308 : goesTo (.brhnz 4#7 64#18) (branchState 0x100#32 false 0#32) = some (0x140#32, false) := by decide
/-- V309. -/
theorem test_brhnz_V309 : goesTo (.brhnz 6#7 64#18) (branchState 0x100#32 false 0#32) = some (0x104#32, false) := by decide
/-- V310. -/
theorem test_biz_V310 : goesTo (.biz 5#7 4#7) (branchState 0x100#32 false 0#32) = some (0x1234#32, false) := by decide
/-- V311. -/
theorem test_biz_V311 : goesTo (.biz 6#7 4#7) (branchState 0x100#32 false 0#32) = some (0x104#32, false) := by decide
/-- V312. -/
theorem test_bize_V312 : goesTo (.bize 5#7 4#7) (branchState 0x100#32 false 0#32) = some (0x1234#32, true) := by decide
/-- V313. -/
theorem test_bize_V313 : goesTo (.bize 6#7 4#7) (branchState 0x100#32 false 0#32) = some (0x104#32, false) := by decide
/-- V314. -/
theorem test_bizd_V314 : goesTo (.bizd 5#7 4#7) (branchState 0x100#32 true 0#32) = some (0x1234#32, false) := by decide
/-- V315. -/
theorem test_binz_V315 : goesTo (.binz 6#7 4#7) (branchState 0x100#32 false 0#32) = some (0x1234#32, false) := by decide
/-- V316. -/
theorem test_binzd_V316 : goesTo (.binzd 5#7 4#7) (branchState 0x100#32 true 0#32) = some (0x104#32, true) := by decide
/-- V317. -/
theorem test_binze_V317 : goesTo (.binze 6#7 4#7) (branchState 0x100#32 false 0#32) = some (0x1234#32, true) := by decide
/-- V318. -/
theorem test_bihz_V318 : goesTo (.bihz 6#7 4#7) (branchState 0x100#32 false 0#32) = some (0x1234#32, false) := by decide
/-- V319. -/
theorem test_bihzd_V319 : goesTo (.bihzd 4#7 4#7) (branchState 0x100#32 true 0#32) = some (0x104#32, true) := by decide
/-- V320. -/
theorem test_bihze_V320 : goesTo (.bihze 6#7 4#7) (branchState 0x100#32 false 0#32) = some (0x1234#32, true) := by decide
/-- V321. -/
theorem test_bihnz_V321 : goesTo (.bihnz 4#7 4#7) (branchState 0x100#32 false 0#32) = some (0x1234#32, false) := by decide
/-- V322. -/
theorem test_bihnzd_V322 : goesTo (.bihnzd 4#7 4#7) (branchState 0x100#32 true 0#32) = some (0x1234#32, false) := by decide
/-- V323. -/
theorem test_bihnze_V323 : goesTo (.bihnze 6#7 4#7) (branchState 0x100#32 false 0#32) = some (0x104#32, false) := by decide
/-- V324. -/
theorem test_hbr_V324 : goesTo (.hbr 64#11 4#7) (branchState 0x100#32 false 0#32) = some (0x104#32, false) := by decide
/-- V325. -/
theorem test_hbr_V325 : goesTo (.hbr 0x7c0#11 4#7) (branchState 0x100#32 false 0#32) = some (0x104#32, false) := by decide
/-- V326. -/
theorem test_hbra_V326 : goesTo (.hbra 64#11 0x2000#18) (branchState 0x100#32 false 0#32) = some (0x104#32, false) := by decide
/-- V327. -/
theorem test_hbrr_V327 : goesTo (.hbrr 64#11 0x3ff80#18) (branchState 0x100#32 false 0#32) = some (0x104#32, false) := by decide
/-- V328. -/
theorem test_hbrr_V328 : goesTo (.hbrr 0x3fc#11 0x1fffc#18) (branchState 0x100#32 false 0#32) = some (0x104#32, false) := by decide
/-- V329. -/
theorem test_hbrp_V329 : goesTo (.hbrp) (branchState 0x100#32 false 0#32) = some (0x104#32, false) := by decide

/-! ## Instructions without a vector: from their rules -/

/-- R391 and R411: stopped, the code, `pc` kept, one event. -/
theorem test_stop : ((after (.stop 0x2A#14) (at_ 0x100#32 false [])).map fun t =>
    (t.run, t.statusCode, t.pc, t.trace.length)) = some (.stopped, 0x2A#14, 0x100#32, 1) := by decide +kernel
/-- R392: the code 0x3FFF. -/
theorem test_stopd : ((after (.stopd 3#7 4#7 5#7) (at_ 0x100#32 false [])).map fun t =>
    (t.run, t.statusCode, t.pc)) = some (.stopped, 0x3FFF#14, 0x100#32) := by decide +kernel
theorem test_lnop : goesTo .lnop (at_ 0x3FFFC#32 true []) = some (0#32, true) := by decide +kernel
theorem test_nop : goesTo (.nop 5#7) (at_ 0x100#32 false []) = some (0x104#32, false) := by decide +kernel
/-- R395, R62: Dirty becomes empty. -/
theorem test_sync : ((after .sync { at_ 0x100#32 false [] with dirty := [0x20, 0x40] }).map fun t => (t.pc, t.dirty)) =
    some (0x104#32, []) := by decide +kernel
theorem test_syncc : ((after .syncc { at_ 0x100#32 false [] with dirty := [0x20] }).map fun t => (t.pc, t.dirty)) =
    some (0x104#32, []) := by decide +kernel
/-- R397: Dirty stays. -/
theorem test_dsync : ((after .dsync { at_ 0x100#32 false [] with dirty := [0x20] }).map fun t => (t.pc, t.dirty)) =
    some (0x104#32, [0x20]) := by decide +kernel
/-- R399: word element 0 of the named register. -/
theorem test_mtspr : ((after (.mtspr 5#7 4#7) (at_ 0x100#32 false [(4#7, 0x12345678000000000000000000000001#128)])).map
    fun t => (t.spr 5#7, t.spr 4#7)) = some (some 0x12345678#32, some 0#32) := by decide +kernel
/-- R398: word element 0 of the result; the others are a free value. -/
theorem test_mfspr : result (.mfspr 3#7 5#7) ((at_ 0x100#32 false []).setSpr 5#7 0x89ABCDEF#32) 3#7 =
    some (0x89ABCDEF#32 ++ State.reset.fresh96) := rfl
/-- R398 (1): a number outside the map. -/
theorem test_mfspr_unmapped : faultOf (exec (.mfspr 3#7 5#7) { at_ 0x100#32 false [] with sprs := Vector.replicate 128 none }) =
    some (.illegalInstruction 0x01800283#32) := by decide +kernel
theorem test_mtspr_unmapped : faultOf (exec (.mtspr 5#7 4#7) { at_ 0x100#32 false [] with sprs := Vector.replicate 128 none }) =
    some (.illegalInstruction 0x21800284#32) := by decide +kernel

/-- The state with the channel side's answers for the coming step. -/
def channelState (answer : OracleAnswer) : State :=
  { at_ 0x100#32 false [(4#7, 0x00112233445566778899AABBCCDDEEFF#128)] with script := [answer] }

/-- R400: all 128 bits of the value. -/
theorem test_rdch : ((after (.rdch 3#7 28#7) (channelState ⟨false, 0#32, some 0xDEADBEEF000000000000000000000001#128, false⟩)).map
    fun t => (t.reg 3#7, t.pc, t.stalled, t.trace)) = some (0xDEADBEEF000000000000000000000001#128, 0x104#32, false,
      [.chRead 28#7 0xDEADBEEF000000000000000000000001#128]) := by decide +kernel
/-- R400 (2): blocked, nothing happens and the machine waits. -/
theorem test_rdch_blocked : ((after (.rdch 3#7 28#7) (channelState ⟨false, 0#32, none, false⟩)).map
    fun t => (t.reg 3#7, t.pc, t.stalled, t.trace)) = some (0#128, 0x100#32, true, []) := by decide +kernel
/-- R401. -/
theorem test_rchcnt : result (.rchcnt 3#7 28#7) (channelState ⟨false, 5#32, none, false⟩) 3#7 =
    some 0x00000005000000000000000000000000#128 := by decide +kernel
/-- R402 (3): all 128 bits of the register. -/
theorem test_wrch : ((after (.wrch 28#7 4#7) (channelState ⟨false, 0#32, none, true⟩)).map
    fun t => (t.pc, t.stalled, t.trace)) = some (0x104#32, false,
      [.chWrite 28#7 0x00112233445566778899AABBCCDDEEFF#128]) := by decide +kernel
theorem test_wrch_blocked : ((after (.wrch 28#7 4#7) (channelState ⟨false, 0#32, none, false⟩)).map
    fun t => (t.pc, t.stalled, t.trace)) = some (0x100#32, true, []) := by decide +kernel
/-- R383. -/
theorem test_fscrrd : result (.fscrrd 3#7) { at_ 0x100#32 false [] with fpscr := 0xFF#128 } 3#7 = some 0xFF#128 := by
  decide +kernel
/-- R384: the false target is not written. -/
theorem test_fscrwr : result (.fscrwr 9#7 4#7)
    (at_ 0x100#32 false [(4#7, 0xFF#128),
      (9#7, 7#128)]) 9#7 = some 7#128 := by
  decide +kernel
/-- R172 with either reading of MPYS_HALF: high halves 0x4000 * 0x0006, low halves -2 * 3. -/
theorem test_mpys : result (.mpys 3#7 4#7 5#7) (at_ 0x100#32 false [(4#7, 0x4000FFFE000000000000000000000000#128),
      (5#7, 0x00060003000000000000000000000000#128)]) 3#7 =
    match Config.mpysHalf with
    | .high => some 0x00000001000000000000000000000000#128
    | .low => some 0xFFFFFFFF000000000000000000000000#128 := by
  simp only [result, after, exec, execMpys, mpysProduct]
  generalize Config.mpysHalf = h
  cases h <;> decide +kernel
/-- R365 to R367: the values are open, the instructions complete. -/
theorem test_frest (s : State) : ∃ t, exec (.frest 3#7 4#7) s = .next t := ⟨_, rfl⟩
theorem test_frsqest (s : State) : ∃ t, exec (.frsqest 3#7 4#7) s = .next t := ⟨_, rfl⟩
theorem test_fi (s : State) : ∃ t, exec (.fi 3#7 4#7 5#7) s = .next t := ⟨_, rfl⟩

/-! ## Interrupts and faults of a step -/

/-- R415 and R416: at the boundary, before the fetch. -/
theorem test_interrupt : (match step { at_ 0x1234#32 true [] with script := [⟨true, 0#32, none, false⟩] } with
    | .next t => some (t.pc, t.ie, t.srr0)
    | _ => none) = some (0#32, false, 0x1234#32) := by decide +kernel
/-- R62: a fetch from a quadword stored to. -/
theorem test_selfModifyingFetch : faultOf (step { at_ 0x104#32 false [] with dirty := [0x100] }) =
    some (.selfModifyingFetch 0x104#32) := by decide +kernel
/-- R64: undefined bytes. -/
theorem test_noInstruction : faultOf (step (at_ 0x104#32 false [])) = some (.noInstruction 0x104#32) := by decide +kernel
/-- R82: a word that no row matches. -/
theorem test_illegalInstruction : faultOf (step ((at_ 0x104#32 false []).withFetchWord 32 0x00800000)) =
    some (.illegalInstruction 0x00800000#32) := by decide +kernel
/-- The first instruction after reset (R39: register 1 holds INIT_SP): `ai $1, $1, -32`. -/
theorem test_first_step : (match step (State.reset.withFetchWord 32 0x1CF80081) with
    | .next t => some (t.reg0 1#7, t.pc)
    | _ => none) = some (0x3FFB0#32, 4#32) := by decide +kernel

/-! ## Witnesses: for each statement with hypotheses, a state and operands that meet them -/

/-- `DecodeEncodeRoundTrip`, the clause for ignored bits that are zero: each kind of operand at its largest value. -/
theorem witness_DecodeEncodeRoundTrip : (Instr.lqd 127#7 0x3FF0#14 127#7).clearIgnored = .lqd 127#7 0x3FF0#14 127#7 ∧
    (Instr.br 0x3FFFC#18).clearIgnored = .br 0x3FFFC#18 ∧
    (Instr.hbra 0x7FC#11 0x3FFFC#18).clearIgnored = .hbra 0x7FC#11 0x3FFFC#18 ∧
    (Instr.cuflt 3#7 4#7 255#8).clearIgnored = .cuflt 3#7 4#7 255#8 := by decide

/-- `AtMostOneRowMatches`: a word that the first row of its kind matches, and a word that none matches. -/
theorem witness_AtMostOneRowMatches : (∃ r ∈ opTable, r.hits 0x18014203#32 = true) ∧
    (∀ r ∈ opTable, r.hits 0x00800000#32 = false) := by decide +kernel

/-- `DoublySuffixedBranchesAreInvalid`: the first and the last opcode, and `hbr` with each offset field nonzero. -/
theorem witness_DoublySuffixedBranchesAreInvalid :
    ((0x350C0200#32).extractLsb' 21 11 = 0b00110101000#11 ∧ (0x350C0200#32).getLsbD 19 = true ∧
      (0x350C0200#32).getLsbD 18 = true) ∧
    ((0x256C0200#32).extractLsb' 21 11 = 0b00100101011#11 ∧ (0x256C0200#32).getLsbD 19 = true ∧
      (0x256C0200#32).getLsbD 18 = true) ∧
    ((0x35904000#32).extractLsb' 21 11 = 0b00110101100#11 ∧ (0x35904000#32).getLsbD 20 = true ∧
      (0x35904000#32).extractLsb' 14 2 ≠ 0#2) ∧
    ((0x35900001#32).extractLsb' 21 11 = 0b00110101100#11 ∧ (0x35900001#32).getLsbD 20 = true ∧
      (0x35900001#32).extractLsb' 0 7 ≠ 0#7) := by decide +kernel

/-- `StepRunsDecodedInstruction`: `a $3, $4, $5` in the last word of local storage. -/
theorem witness_StepRunsDecodedInstruction : ∃ s : State, ∃ b0 b1 b2 b3 : Byte, s.run = .running ∧
    ¬ (s.ie = true ∧ s.stalled = false ∧ s.irq = true) ∧ lsa s.pc ∉ s.dirty ∧
    Memory.read s.ls s.pc.toNat = some b0 ∧ Memory.read s.ls (s.pc.toNat + 1) = some b1 ∧
    Memory.read s.ls (s.pc.toNat + 2) = some b2 ∧ Memory.read s.ls (s.pc.toNat + 3) = some b3 ∧
    decode [b0, b1, b2, b3] = .ok (.a 3#7 4#7 5#7, []) ∧
    ∃ t, exec (.a 3#7 4#7 5#7) s = .next t :=
  ⟨(at_ 0x3FFFC#32 false []).withFetchWord 32 0x18014203, 0x18#8, 0x01#8, 0x42#8, 0x03#8, rfl, by decide +kernel,
    by decide +kernel, by decide +kernel, by decide +kernel, by decide +kernel, by decide +kernel, by decide +kernel,
    _, rfl⟩
/-- The clauses about a fault and a refusal: a fault of `exec`; no instruction is refused. -/
theorem witness_StepRunsDecodedInstruction_fault :
    (match step ({ at_ 0x100#32 false [] with sprs := Vector.replicate 128 none }.withFetchWord 32 0x01800283) with
      | .fault (.illegalInstruction w) => w == 0x01800283#32
      | _ => false) = true := by decide +kernel

/-- A running machine with IE = 1 and a request. -/
def asked : State := { at_ 0x1234#32 true [] with script := [⟨true, 0#32, none, false⟩] }

theorem witness_InterruptEntry : asked.run = .running ∧ asked.ie = true ∧ asked.stalled = false ∧ asked.irq = true := by
  decide +kernel

/-- `FetchFaultsInOrder`: the hypotheses of each clause. -/
theorem witness_FetchFaultsInOrder :
    (∃ s : State, s.run = .running ∧ ¬ (s.ie = true ∧ s.stalled = false ∧ s.irq = true) ∧ lsa s.pc ∈ s.dirty) ∧
    (∃ s : State, s.run = .running ∧ ¬ (s.ie = true ∧ s.stalled = false ∧ s.irq = true) ∧ lsa s.pc ∉ s.dirty ∧
      Memory.read s.ls (s.pc.toNat + 0) = none ∧ Memory.read s.ls (s.pc.toNat + 3) = none) ∧
    (∃ s : State, s.run = .running ∧ ¬ (s.ie = true ∧ s.stalled = false ∧ s.irq = true) ∧ lsa s.pc ∉ s.dirty ∧
      Memory.read s.ls s.pc.toNat = some 0x00#8 ∧ Memory.read s.ls (s.pc.toNat + 1) = some 0x80#8 ∧
      Memory.read s.ls (s.pc.toNat + 2) = some 0x00#8 ∧ Memory.read s.ls (s.pc.toNat + 3) = some 0x00#8 ∧
      ∀ r ∈ opTable, r.hits (0x00#8 ++ 0x80#8 ++ 0x00#8 ++ 0x00#8) = false) ∧
    (∃ s : State, s.run ≠ .running) :=
  ⟨⟨{ at_ 0x104#32 false [] with dirty := [0x100] }, by decide +kernel⟩, ⟨at_ 0x104#32 false [], by decide +kernel⟩,
    ⟨(at_ 0x104#32 false []).withFetchWord 32 0x00800000, by decide +kernel⟩,
    ⟨{ at_ 0x104#32 false [] with run := .halted }, by decide +kernel⟩⟩

/-- A state with every part of the invariant at work: cells listed, a stored-to quadword, SRR0 in use. -/
def busy : State := { (at_ 0x3FFFC#32 false [(4#7, 5#128)]).withFetchWord 32 0x18014203 with dirty := [0x20, 0x100], srr0 := 0x2468#32 }

theorem busy_inv : busy.Inv :=
  ⟨by decide +kernel, by decide +kernel, by decide +kernel, by unfold IsPc; decide +kernel, by unfold IsPc; decide +kernel,
    by unfold IsPc; decide +kernel, BitVec.zero_and, trivial⟩

/-- `InvariantKept` and the statements about every step: a step that goes on from a state with the invariant. -/
theorem witness_InvariantKept : busy.Inv ∧ (match step busy with | .next t => t.pc == 0#32 | _ => false) = true :=
  ⟨busy_inv, by decide +kernel⟩

/-- `InterruptEnableWriters`: a step by interrupt, and a step by an instruction that writes IE. -/
theorem witness_InterruptEnableWriters : (match step asked with | .next t => t.srr0 == 0x1234#32 | _ => false) = true ∧
    (match step ((at_ 0x100#32 false []).withFetchWord 32 0x35040200) with | .next t => t.ie | _ => false) = true := by
  decide +kernel

/-- `OnlyStoresWriteMemory`: a store, an address below, the first and the last stored byte's neighbours; an instruction
that stores nothing. -/
theorem witness_OnlyStoresWriteMemory : storeTo (at_ 0x100#32 false []) (.stqa 6#7 0x40#18) = some 0x40 ∧
    (after (.stqa 6#7 0x40#18) (at_ 0x100#32 false [])).isSome = true ∧
    storeTo (at_ 0x100#32 false []) (.il 6#7 1#16) = none ∧ Instr.il 6#7 1#16 ≠ .sync ∧ Instr.il 6#7 1#16 ≠ .syncc ∧
    (after (.il 6#7 1#16) (at_ 0x100#32 false [])).isSome = true := by decide +kernel

/-- `OnlyTargetsChange` and `SpecialRegisterWriters`: instructions that go on, with and without a target, outside and
inside the listed writers. -/
theorem witness_OnlyTargetsChange : target (.il 6#7 1#16) ≠ some 5#7 ∧ target .sync = none ∧ target (.nop 5#7) ≠ some 5#7 ∧
    (after (.il 6#7 1#16) (at_ 0x100#32 false [])).isSome = true ∧ (after (.nop 5#7) (at_ 0x100#32 false [])).isSome = true := by
  decide +kernel
theorem witness_SpecialRegisterWriters : writesFpscr (.il 6#7 1#16) = false ∧ (∀ ra, Instr.mtspr 4#7 6#7 ≠ .mtspr 5#7 ra) ∧
    (∀ u14, Instr.il 6#7 1#16 ≠ .stop u14) ∧ (∀ ra rb rc, Instr.il 6#7 1#16 ≠ .stopd ra rb rc) ∧
    (after (.il 6#7 1#16) (at_ 0x100#32 false [])).isSome = true ∧
    (after (.mtspr 4#7 6#7) (at_ 0x100#32 false [])).isSome = true :=
by
  refine ⟨by decide, ?_, ?_, ?_, by decide, by decide⟩
  · intro ra h
    cases h
  · intro u14 h
    cases h
  · intro ra rb rc h
    cases h

/-- `EveryInstructionAnswers`: a mapped register is named, and none is named. -/
theorem witness_EveryInstructionAnswers : (∀ n, sprNamed (.mfspr 3#7 127#7) = some n → State.reset.spr n ≠ none) ∧
    (∀ n, sprNamed .lnop = some n → State.reset.spr n ≠ none) :=
  ⟨fun n h => by cases h; decide, fun n h => by cases h⟩

/-- `LoadAfterStore`: the same quadword by another address, and the next quadword. -/
theorem witness_LoadAfterStore : lsa ((at_ 0#32 false [(4#7, 0x0000001F000000000000000000000000#128)]).eaD 0#14 4#7) =
      lsa ((at_ 0#32 false [(4#7, 0x0000001F000000000000000000000000#128)]).eaD 0x10#14 5#7) ∧
    lsa ((at_ 0#32 false []).eaD 0#14 4#7) ≠ lsa ((at_ 0#32 false []).eaD 0x10#14 4#7) := by decide +kernel

/-- `InsertsScalar` of `InsertionByShuffle`: a state whose control register holds what `cbd` leaves. -/
theorem witness_InsertionByShuffle : (result (.cbd 3#7 15#7 4#7) (at_ 0x100#32 false []) 3#7).map
    (fun v => (at_ 0x100#32 false [(6#7, v)]).reg 6#7 == v) = some true := by decide +kernel

/-- `MixedMultiply` and `StopAndSignal`: an open parameter is one of its two readings; `FpscrMoves` has none. -/
theorem witness_MixedMultiply : Config.mpysHalf = .high ∨ Config.mpysHalf = .low := by
  cases Config.mpysHalf <;> simp
theorem witness_StopAndSignal : Config.npcAtStop = .pc ∨ Config.npcAtStop = .pcPlus4 := by
  cases Config.npcAtStop <;> simp

/-- `InterruptReturns`: the last instruction address, with IE = 1. -/
theorem witness_InterruptReturns : IsPc (at_ 0x3FFFC#32 true []).pc ∧ (at_ 0x3FFFC#32 true []).ie = true :=
  ⟨by unfold IsPc; decide +kernel, by decide +kernel⟩

/-- `BranchOnExternalData`: the count zero, one, and the largest. -/
theorem witness_BranchOnExternalData : (branchState 0#32 false 0#32).chCount 0#7 = 0#32 ∧
    (branchState 0#32 false 1#32).chCount 0#7 ≠ 0#32 ∧ (branchState 0#32 false 0xFFFFFFFF#32).chCount 0#7 ≠ 0#32 := by
  decide +kernel

/-- The conditional branches: word element 0 and halfword element 1 zero and not zero. -/
theorem witness_ConditionalBranches : wordOf ((branchState 0#32 false 0#32).reg 5#7) 0 = 0#32 ∧
    ¬ wordOf ((branchState 0#32 false 0#32).reg 6#7) 0 = 0#32 ∧ halfOf ((branchState 0#32 false 0#32).reg 6#7) 1 = 0#16 ∧
    ¬ halfOf ((branchState 0#32 false 0#32).reg 4#7) 1 = 0#16 := by decide +kernel

/-- `Halts`: each comparison holds and fails (V254 to V270 run them). -/
theorem witness_Halts : wordOf (haltState.reg 4#7) 0 = wordOf (haltState.reg 5#7) 0 ∧
    wordOf (haltState.reg 4#7) 0 ≠ wordOf (haltState.reg 6#7) 0 ∧
    (wordOf (haltState.reg 6#7) 0).toInt = (0x3FF#10 : BitVec 10).toInt ∧
    (wordOf (haltState.reg 4#7) 0).toInt > (wordOf (haltState.reg 6#7) 0).toInt ∧
    (wordOf (haltState.reg 6#7) 0).toNat > (wordOf (haltState.reg 4#7) 0).toNat := by decide +kernel

/-- `SpecialPurposeRegisterMoves`: a mapped and an unmapped number. -/
theorem witness_SpecialPurposeRegisterMoves : (at_ 0x100#32 false []).spr 127#7 = some 0#32 ∧
    { at_ 0x100#32 false [] with sprs := Vector.replicate 128 none }.spr 0#7 = none := by decide +kernel

/-- `Channels`: each answer of the channel side. -/
theorem witness_Channels : (channelState ⟨false, 0#32, some 7#128, false⟩).chRead 127#7 = some 7#128 ∧
    (channelState ⟨false, 0#32, none, false⟩).chRead 0#7 = none ∧
    (channelState ⟨false, 0#32, none, true⟩).chWrite 28#7 9#128 = true ∧
    (channelState ⟨false, 0#32, none, false⟩).chWrite 28#7 9#128 = false := by decide +kernel

/-! Core values: one, two, four, five and others, in both formats. -/

/-- A single-precision pattern of value `±(1 + m / 2^23) * 2^(e - 127)`. -/
theorem coreSp_of {w : Word} {x : ℚ} (sign e m : Nat) (h : sign < 2 ∧ 1 ≤ e ∧ e + 1 < 256 ∧ m < 2 ^ 23)
    (hw : w.toNat = sign * 2 ^ 31 + e * 2 ^ 23 + m) (hx : x = (-1) ^ sign * 2 ^ ((e : ℤ) - 127) * (1 + m / 2 ^ 23)) :
    CoreSp w x :=
  .inr ⟨sign, e, m, h.1, h.2.1, h.2.2.1, h.2.2.2, hw, hx⟩

/-- The same in double precision. -/
theorem coreDp_of {w : DWord} {x : ℚ} (sign e m : Nat) (h : sign < 2 ∧ 1 ≤ e ∧ e + 1 < 2048 ∧ m < 2 ^ 52)
    (hw : w.toNat = sign * 2 ^ 63 + e * 2 ^ 52 + m) (hx : x = (-1) ^ sign * 2 ^ ((e : ℤ) - 1023) * (1 + m / 2 ^ 52)) :
    CoreDp w x :=
  .inr ⟨sign, e, m, h.1, h.2.1, h.2.2.1, h.2.2.2, hw, hx⟩

theorem sp_one : CoreSp 0x3F800000#32 1 := coreSp_of 0 127 0 (by decide) (by decide) (by norm_num)
theorem sp_two : CoreSp 0x40000000#32 2 := coreSp_of 0 128 0 (by decide) (by decide) (by norm_num)
theorem sp_four : CoreSp 0x40800000#32 4 := coreSp_of 0 129 0 (by decide) (by decide) (by norm_num)
theorem sp_five : CoreSp 0x40A00000#32 5 := coreSp_of 0 129 0x200000 (by decide) (by decide) (by norm_num)
theorem sp_three : CoreSp 0x40400000#32 3 := coreSp_of 0 128 0x400000 (by decide) (by decide) (by norm_num)
theorem sp_minus_one : CoreSp 0xBF800000#32 (-1) := coreSp_of 1 127 0 (by decide) (by decide) (by norm_num)
theorem sp_minus_three : CoreSp 0xC0400000#32 (-3) := coreSp_of 1 128 0x400000 (by decide) (by decide) (by norm_num)
theorem sp_zero : CoreSp 0#32 0 := .inl ⟨rfl, rfl⟩
theorem dp_one : CoreDp 0x3FF0000000000000#64 1 := coreDp_of 0 1023 0 (by decide) (by decide) (by norm_num)
theorem dp_two : CoreDp 0x4000000000000000#64 2 := coreDp_of 0 1024 0 (by decide) (by decide) (by norm_num)
theorem dp_four : CoreDp 0x4010000000000000#64 4 := coreDp_of 0 1025 0 (by decide) (by decide) (by norm_num)
theorem dp_five : CoreDp 0x4014000000000000#64 5 := coreDp_of 0 1025 0x4000000000000 (by decide) (by decide) (by norm_num)
theorem dp_three : CoreDp 0x4008000000000000#64 3 := coreDp_of 0 1024 0x8000000000000 (by decide) (by decide) (by norm_num)
theorem dp_minus_three : CoreDp 0xC008000000000000#64 (-3) :=
  coreDp_of 1 1024 0x8000000000000 (by decide) (by decide) (by norm_num)
theorem dp_minus_five : CoreDp 0xC014000000000000#64 (-5) :=
  coreDp_of 1 1025 0x4000000000000 (by decide) (by decide) (by norm_num)

/-- `SingleAddSubtractMultiply`: 1 + 1, 2 - 1, 2 * 2. -/
theorem witness_SingleAddSubtractMultiply :
    (CoreSp 0x3F800000#32 1 ∧ CoreSp 0x3F800000#32 1 ∧ CoreSp 0x40000000#32 (1 + 1) ∧ (1 + 1 : ℚ) ≠ 0) ∧
    (CoreSp 0x40000000#32 2 ∧ CoreSp 0x3F800000#32 1 ∧ CoreSp 0x3F800000#32 (2 - 1) ∧ (2 - 1 : ℚ) ≠ 0) ∧
    (CoreSp 0x40000000#32 2 ∧ CoreSp 0x40000000#32 2 ∧ CoreSp 0x40800000#32 (2 * 2) ∧ (2 * 2 : ℚ) ≠ 0) := by
  norm_num [sp_one, sp_two, sp_four]

/-- `SingleMultiplyAdd`: 2 * 2 + 1, 2 * 2 - 1, 1 - 2 * 2. -/
theorem witness_SingleMultiplyAdd : CoreSp 0x40000000#32 2 ∧ CoreSp 0x3F800000#32 1 ∧ CoreSp 0x40800000#32 (2 * 2) ∧
    CoreSp 0x40A00000#32 (2 * 2 + 1) ∧ CoreSp 0x40400000#32 (2 * 2 - 1) ∧ CoreSp 0xC0400000#32 (1 - 2 * 2) ∧
    (2 * 2 : ℚ) ≠ 0 ∧ (2 * 2 + 1 : ℚ) ≠ 0 ∧ (2 * 2 - 1 : ℚ) ≠ 0 ∧ (1 - 2 * 2 : ℚ) ≠ 0 := by
  norm_num [sp_one, sp_two, sp_four, sp_five, sp_three, sp_minus_three]

/-- `DoubleArithmetic`: the same values, and -(2 * 2 + 1). -/
theorem witness_DoubleArithmetic : CoreDp 0x3FF0000000000000#64 1 ∧ CoreDp 0x4000000000000000#64 (1 + 1) ∧
    CoreDp 0x3FF0000000000000#64 (2 - 1) ∧ CoreDp 0x4010000000000000#64 (2 * 2) ∧ CoreDp 0x4014000000000000#64 (2 * 2 + 1) ∧
    CoreDp 0x4008000000000000#64 (2 * 2 - 1) ∧ CoreDp 0xC008000000000000#64 (1 - 2 * 2) ∧
    CoreDp 0xC014000000000000#64 (-(2 * 2 + 1)) ∧ (1 + 1 : ℚ) ≠ 0 ∧ (2 * 2 : ℚ) ≠ 0 ∧ (-(2 * 2 + 1) : ℚ) ≠ 0 := by
  norm_num [dp_one, dp_two, dp_four, dp_five, dp_three, dp_minus_three, dp_minus_five]

/-- `EstimatesAndPrecision`: 1 in both formats. -/
theorem witness_EstimatesAndPrecision : CoreSp 0x3F800000#32 1 ∧ CoreDp 0x3FF0000000000000#64 1 ∧ (1 : ℚ) ≠ 0 := by
  norm_num [sp_one, dp_one]

/-- `FloatToInteger`: at both bounds of `cflts`, at the upper bound and at zero of `cfltu`, and inside; the largest scale. -/
theorem witness_FloatToInteger : (31#8).toNat ≤ 127 ∧ (127#8).toNat ≤ 127 ∧ CoreSp 0x3F800000#32 1 ∧
    (2 : ℚ) ^ 31 ≤ 1 * 2 ^ (31#8).toNat ∧ CoreSp 0xBF800000#32 (-1) ∧ (-1 : ℚ) * 2 ^ (31#8).toNat ≤ -2 ^ 31 ∧
    (2 : ℚ) ^ 32 ≤ 1 * 2 ^ (32#8).toNat ∧ CoreSp 0#32 0 ∧ (0 : ℚ) * 2 ^ (32#8).toNat ≤ 0 ∧
    ¬ (2 : ℚ) ^ 31 ≤ 1 * 2 ^ (30#8).toNat ∧ ¬ (1 : ℚ) * 2 ^ (30#8).toNat ≤ 0 := by
  norm_num [sp_one, sp_minus_one, sp_zero]

/-- `IntegerToFloat`: five without a scale, zero with the largest. -/
theorem witness_IntegerToFloat : (127#8).toNat ≤ 127 ∧ CoreSp 0x40A00000#32 ((5#32).toInt / 2 ^ (0#8).toNat) ∧
    CoreSp 0#32 ((0#32).toNat / 2 ^ (127#8).toNat) ∧ CoreSp 0xBF800000#32 ((0xFFFFFFFF#32).toInt / 2 ^ (0#8).toNat) := by
  have h5 : (5#32).toInt = 5 := by decide
  have h1 : (0xFFFFFFFF#32).toInt = -1 := by decide
  rw [h5, h1]
  norm_num [sp_five, sp_zero, sp_minus_one]

/-- `FloatCompare`: equal, greater, and of equal magnitude. -/
theorem witness_FloatCompare : CoreSp 0x40000000#32 2 ∧ CoreSp 0x3F800000#32 1 ∧ CoreSp 0xBF800000#32 (-1) :=
  ⟨sp_two, sp_one, sp_minus_one⟩

end Sys2Proof.Tests
end

section
/-! What `exec` can answer. Each instruction ends in one of a few operations on the state; `Effect` lists them, with
what the endings know of the instruction, and `exec_answers` is the one place where the instructions are gone through
one by one. What holds of every instruction follows from it by cases on the ending. -/

namespace Sys2Proof.Machine

/-! ## The endings -/

/-- The six halt instructions (R289 to R295). -/
inductive IsHalt : Instr → Prop
  | heq (rt ra rb) : IsHalt (.heq rt ra rb)
  | heqi (rt ra s10) : IsHalt (.heqi rt ra s10)
  | hgt (rt ra rb) : IsHalt (.hgt rt ra rb)
  | hgti (rt ra s10) : IsHalt (.hgti rt ra s10)
  | hlgt (rt ra rb) : IsHalt (.hlgt rt ra rb)
  | hlgti (rt ra s10) : IsHalt (.hlgti rt ra s10)

/-- The next states that `exec i s` can answer, by the operation the instruction ends in. -/
inductive Effect (i : Instr) (s : State) : State → Prop
  /-- A value in the target. -/
  | retire (rt v) (ht : target i = some rt) : Effect i s (s.retire rt v)
  /-- A floating-point result (R378). -/
  | fpRetire (op inputs rt v) (ht : target i = some rt) (hf : writesFpscr i = true) :
      Effect i s (s.fpRetire op inputs rt v)
  /-- `fscrwr` (R384). -/
  | setFpscr (v) (hf : writesFpscr i = true) : Effect i s (s.setFpscr v).advance
  /-- A store (R53, R62). -/
  | store (ea v) (hs : storeTo s i = some (lsa ea)) : Effect i s (s.store ea v).advance
  /-- Nothing but the next instruction: no-operations, hints, a branch not taken, a halt whose condition fails. -/
  | advance : Effect i s s.advance
  /-- `sync` and `syncc` (R62). -/
  | sync (hi : i = .sync ∨ i = .syncc) : Effect i s s.clearDirty.advance
  /-- A branch, or the return from an interrupt (R300, R315). -/
  | goto (a) : Effect i s (s.goto a)
  /-- The same, with a suffix that writes IE (R301). -/
  | gotoIe (a b) (hb : ieSuffix i = some b) : Effect i s ((s.goto a).setIe b)
  /-- A branch that sets the link register (R300 f). -/
  | call (rt a) (ht : target i = some rt) : Effect i s (s.callTo rt a)
  /-- The same, with a suffix that writes IE. -/
  | callIe (rt a b) (ht : target i = some rt) (hb : ieSuffix i = some b) : Effect i s ((s.callTo rt a).setIe b)
  /-- A halt whose condition holds (R412). -/
  | halt (hi : IsHalt i) : Effect i s s.halt
  /-- `stop` (R391). -/
  | stop (u14) (hi : i = .stop u14) : Effect i s (s.stopAndSignal u14)
  /-- `stopd` (R392). -/
  | stopd (ra rb rc) (hi : i = .stopd ra rb rc) : Effect i s (s.stopAndSignal 0x3FFF#14)
  /-- `mtspr` to a mapped register (R399). -/
  | setSpr (n ra) (hi : i = .mtspr n ra) : Effect i s (s.setSpr n (s.reg0 ra)).advance
  /-- `rdch` that takes a value (R400). -/
  | read (rt ch v) (hi : i = .rdch rt ch) (hr : s.chRead ch = some v) :
      Effect i s (((s.emit (.chRead ch v)).retire rt v).setStalled false)
  /-- `rdch` that waits (R400). -/
  | readWaits (rt ch) (hi : i = .rdch rt ch) (hr : s.chRead ch = none) : Effect i s (s.setStalled true)
  /-- `wrch` that is done (R402). -/
  | write (ch ra) (hi : i = .wrch ch ra) (hw : s.chWrite ch (s.reg ra) = true) :
      Effect i s ((s.emit (.chWrite ch (s.reg ra))).advance.setStalled false)
  /-- `wrch` that waits (R402). -/
  | writeWaits (ch ra) (hi : i = .wrch ch ra) (hw : s.chWrite ch (s.reg ra) = false) :
      Effect i s (s.setStalled true)

/-- The answers that `exec i s` can give: a next state, or a fault when the special purpose register it names is not
mapped (R398). -/
inductive Answer (i : Instr) (s : State) : Result → Prop
  | next {t} (h : Effect i s t) : Answer i s (.next t)
  | unmapped (n) (hn : sprNamed i = some n) (hs : s.spr n = none) : Answer i s (.fault (.illegalInstruction (encode i)))

/-! ## Endings with two outcomes -/

theorem Effect.branchIf {i : Instr} {s : State} (b : Bool) (a : Word) : Effect i s (s.branchIf b a) := by
  cases b
  case false => exact .advance
  case true => exact .goto a

theorem Effect.branchIfIe {i : Instr} {s : State} (b : Bool) (a : Word) {ie : Bool} (hb : ieSuffix i = some ie) :
    Effect i s (s.branchIfIe b a ie) := by
  cases b
  case false => exact .advance
  case true => exact .gotoIe a ie hb

/-- The link register is written in both outcomes (R312). -/
theorem Effect.callIf {i : Instr} {s : State} {rt : Reg} (b : Bool) (a : Word) (ht : target i = some rt) :
    Effect i s ((s.setReg rt s.link).branchIf b a) := by
  cases b
  case false => exact .retire rt s.link ht
  case true => exact .call rt a ht

theorem Effect.callIfIe {i : Instr} {s : State} {rt : Reg} (b : Bool) (a : Word) {ie : Bool} (ht : target i = some rt)
    (hb : ieSuffix i = some ie) : Effect i s ((s.setReg rt s.link).branchIfIe b a ie) := by
  cases b
  case false => exact .retire rt s.link ht
  case true => exact .callIe rt a ie ht hb

theorem Effect.haltIf {i : Instr} {s : State} (b : Bool) (hi : IsHalt i) : Effect i s (s.haltIf b) := by
  cases b
  case false => exact .advance
  case true => exact .halt hi

theorem Effect.finishRead (s : State) (rt : Reg) (ch : Chan) :
    Effect (.rdch rt ch) s (s.finishRead rt ch (s.chRead ch)) := by
  obtain ⟨v, hr, ht⟩ | ⟨hr, ht⟩ := s.finishRead_cases rt ch (s.chRead ch)
  · exact ht ▸ .read rt ch v rfl hr
  · exact ht ▸ .readWaits rt ch rfl hr

theorem Effect.finishWrite (s : State) (ch : Chan) (ra : Reg) :
    Effect (.wrch ch ra) s (s.finishWrite ch (s.reg ra) (s.chWrite ch (s.reg ra))) := by
  obtain ⟨hw, ht⟩ | ⟨hw, ht⟩ := s.finishWrite_cases ch (s.reg ra) (s.chWrite ch (s.reg ra))
  · exact ht ▸ .write ch ra rfl hw
  · exact ht ▸ .writeWaits ch ra rfl hw

theorem answer_execMfspr (rt : Reg) (n : SprNum) (s : State) : Answer (.mfspr rt n) s (execMfspr rt n s) := by
  unfold execMfspr
  split
  · exact .next (.retire rt _ rfl)
  · next h => exact .unmapped n rfl h

theorem answer_execMtspr (n : SprNum) (ra : Reg) (s : State) : Answer (.mtspr n ra) s (execMtspr n ra s) := by
  unfold execMtspr
  split
  · exact .next (.setSpr n ra rfl)
  · next h => exact .unmapped n rfl h

/-! ## Every instruction -/

/-- Everything that an instruction can answer. -/
theorem exec_answers (i : Instr) (s : State) : Answer i s (exec i s) := by
  cases i with
  | lqd | lqx | lqa | lqr | cbd | cbx | chd | chx | cwd | cwx | cdd | cdx
  | il | ila | ilh | ilhu | iohl | fsmbi
  | a | ah | ahi | ai | addx | cg | cgx | sf | sfh | sfhi | sfi | sfx | bg | bgx
  | mpy | mpyu | mpyi | mpyui | mpya | mpyh | mpys | mpyhh | mpyhha | mpyhhu | mpyhhau
  | clz | cntb | fsm | fsmh | fsmb | gb | gbh | gbb | avgb | absdb | sumb | xsbh | xshw | xswd
  | and | andc | andbi | andhi | andi | or | orc | orbi | orhi | ori | orx | xor | xorbi | xorhi | xori
  | nand | nor | eqv | selb | shufb
  | shl | shlh | shlhi | shli | shlqbi | shlqbii | shlqby | shlqbybi | shlqbyi
  | rot | roth | rothi | roti | rotqbi | rotqbii | rotqby | rotqbybi | rotqbyi
  | rotm | rotmi | rothm | rothmi | rotma | rotmai | rotmah | rotmahi
  | rotqmbi | rotqmbii | rotqmby | rotqmbybi | rotqmbyi
  | ceqb | ceqh | ceq | ceqbi | ceqhi | ceqi | cgtb | cgth | cgt | cgtbi | cgthi | cgti
  | clgtb | clgth | clgt | clgtbi | clgthi | clgti | fscrrd | rchcnt => exact .next (.retire _ _ rfl)
  | fa | fs | fm | fma | fms | fnms | dfa | dfs | dfm | dfma | dfms | dfnms | dfnma
  | frest | frsqest | fi | fesd | frds | cflts | cfltu | csflt | cuflt
  | fceq | fcmeq | fcgt | fcmgt => exact .next (.fpRetire _ _ _ _ rfl rfl)
  | fscrwr => exact .next (.setFpscr _ rfl)
  | stqd | stqx | stqa | stqr => exact .next (.store _ _ rfl)
  | lnop | nop | dsync | hbr | hbra | hbrr | hbrp => exact .next .advance
  | sync => exact .next (.sync (.inl rfl))
  | syncc => exact .next (.sync (.inr rfl))
  | br | bra | bi => exact .next (.goto _)
  | iret => exact .next (.goto s.srr0)
  | bid | bie => exact .next (.gotoIe _ _ rfl)
  | iretd | irete => exact .next (.gotoIe s.srr0 _ rfl)
  | brsl | brasl | bisl => exact .next (.call _ _ rfl)
  | bisld | bisle => exact .next (.callIe _ _ _ rfl rfl)
  | bisled => exact .next (.callIf _ _ rfl)
  | bisledd | bislede => exact .next (.callIfIe _ _ rfl rfl)
  | brz | brnz | brhz | brhnz | biz | binz | bihz | bihnz => exact .next (.branchIf _ _)
  | bizd | bize | binzd | binze | bihzd | bihze | bihnzd | bihnze => exact .next (.branchIfIe _ _ rfl)
  | heq => exact .next (.haltIf _ (.heq ..))
  | heqi => exact .next (.haltIf _ (.heqi ..))
  | hgt => exact .next (.haltIf _ (.hgt ..))
  | hgti => exact .next (.haltIf _ (.hgti ..))
  | hlgt => exact .next (.haltIf _ (.hlgt ..))
  | hlgti => exact .next (.haltIf _ (.hlgti ..))
  | stop u14 => exact .next (.stop u14 rfl)
  | stopd ra rb rc => exact .next (.stopd ra rb rc rfl)
  | mfspr rt n => exact answer_execMfspr rt n s
  | mtspr n ra => exact answer_execMtspr n ra s
  | rdch rt ch => exact .next (.finishRead s rt ch)
  | wrch ch ra => exact .next (.finishWrite s ch ra)

/-- Everything that an instruction which answers a next state can have done. -/
theorem exec_effect {i : Instr} {s t : State} (h : exec i s = .next t) : Effect i s t := by
  have answer := exec_answers i s
  rw [h] at answer
  cases answer with
  | next effect => exact effect

/-! ## The registers an ending leaves -/

/-- No ending writes a register but the target (R22, R23). -/
theorem Effect.reg_of_not_target {i : Instr} {s t : State} {q : Reg} (h : Effect i s t) (hq : target i ≠ some q) :
    t.reg q = s.reg q := by
  have ne_target {rt : Reg} (ht : target i = some rt) : q ≠ rt := fun e => hq (e ▸ ht)
  cases h with
  | retire rt v ht => exact s.reg_retire_of_ne v (ne_target ht)
  | fpRetire op inputs rt v ht => exact s.reg_fpRetire_of_ne op inputs v (ne_target ht)
  | call rt a ht | callIe rt a b ht => exact s.reg_callTo_of_ne a (ne_target ht)
  | read rt ch v hi => exact (s.emit (.chRead ch v)).reg_retire_of_ne v (ne_target (hi ▸ rfl))
  | setFpscr | store | advance | sync | goto | gotoIe | halt | stop | stopd | setSpr | readWaits | write
  | writeWaits => rfl

/-- Settles O14: no ending of an instruction writes a register but its target. -/
theorem onlyTargetsChange : Obligations.OnlyTargetsChange :=
  fun _ _ _ h _ hq => (exec_effect h).reg_of_not_target hq

end Sys2Proof.Machine
end

section
/-! The invariant of the machine: one lemma for each operation on the state, then the endings, the step and the reset. -/

namespace Sys2Proof.Machine

/-! ## Instruction addresses and the FPSCR mask -/

theorem isPc_zero : IsPc 0#32 := by unfold IsPc; decide

/-- The address after `pc`, which the link register (R300 f) and `stop` (R391) may hold, in numbers. -/
theorem State.toNat_pc_add_four (s : State) :
    ((s.pc + 4#32) &&& Config.lsMask).toNat = (s.pc.toNat + 4) % Config.lsSize := by
  rw [← s.toNat_link, State.link, wordOf_inWord0_zero]

/-- Both readings of NPC_AT_STOP are instruction addresses. -/
theorem State.Inv.isPc_npcValue {s : State} (h : s.Inv) : IsPc s.npcValue := by
  have aligned : s.pc.toNat % 4 = 0 := h.pc.2
  unfold State.npcValue
  split
  · exact h.pc
  · unfold IsPc
    rw [s.toNat_pc_add_four]
    unfold Config.lsSize
    omega

/-- A masked value has no bit outside the mask. -/
theorem and_mask_and_not_mask (x m : Quad) : x &&& m &&& ~~~m = 0 := by
  rw [BitVec.and_assoc, BitVec.and_not_self]
  exact BitVec.and_zero

/-- A running machine has no end to tell. -/
theorem State.endTold_of_running {s : State} (hr : s.run = .running) : s.EndTold := by
  unfold State.EndTold
  rw [hr]
  trivial

/-! ## What each operation keeps -/

section
variable {s : State}

theorem State.Inv.setReg (h : s.Inv) (r : Reg) (v : Quad) : (s.setReg r v).Inv := { h with }

theorem State.Inv.setIe (h : s.Inv) (b : Bool) : (s.setIe b).Inv := { h with }

theorem State.Inv.setStalled (h : s.Inv) (b : Bool) : (s.setStalled b).Inv := { h with }

theorem State.Inv.setSpr (h : s.Inv) (n : SprNum) (v : Word) : (s.setSpr n v).Inv := { h with }

theorem State.Inv.tick (h : s.Inv) : s.tick.Inv := { h with }

theorem State.Inv.setFpscr (h : s.Inv) (v : Quad) : (s.setFpscr v).Inv :=
  { h with fpscr := and_mask_and_not_mask .. }

theorem State.Inv.clearDirty (h : s.Inv) : s.clearDirty.Inv :=
  { h with dirtyRising := rfl, dirtyQuads := fun _ hd => nomatch hd }

/-- A store writes inside local storage, and its quadword joins Dirty (R53, R62). -/
theorem State.Inv.store (h : s.Inv) (ea : Word) (v : Quad) : (s.store ea v).Inv :=
  { h with
    memory := Memory.wf_storeQuad ea v h.memory
    dirtyRising := rising_insertRising _ h.dirtyRising
    dirtyQuads := fun d hd => by
      obtain rfl | hd := mem_insertRising.1 hd
      · exact ⟨lsa_in_range ea, lsa_aligned ea⟩
      · exact h.dirtyQuads d hd }

/-- The machine runs, so no event has to be the last one. -/
theorem State.Inv.emit (h : s.Inv) (hr : s.run = .running) (e : Config.Event) : (s.emit e).Inv :=
  { h with told := endTold_of_running hr }

/-- Wherever a branch goes, it goes to an instruction address (R27, R300 a). -/
theorem State.Inv.goto (h : s.Inv) (hr : s.run = .running) (a : Word) : (s.goto a).Inv :=
  { h with pc := isPc_normPc a, told := endTold_of_running hr }

theorem State.Inv.advance (h : s.Inv) (hr : s.run = .running) : s.advance.Inv := h.goto hr (s.pc + 4#32)

theorem State.Inv.retire (h : s.Inv) (hr : s.run = .running) (rt : Reg) (v : Quad) : (s.retire rt v).Inv :=
  (h.setReg rt v).advance hr

theorem State.Inv.fpRetire (h : s.Inv) (hr : s.run = .running) (op : Config.FpOp) (inputs : List Quad) (rt : Reg)
    (v : Quad) : (s.fpRetire op inputs rt v).Inv :=
  (h.retire hr rt v).setFpscr (Config.fpscrAfter op inputs s.fpscr)

/-- The event of a stop holds the code and the NPC that the registers get (R411). -/
theorem State.Inv.stopAndSignal (h : s.Inv) (code : BitVec 14) : (s.stopAndSignal code).Inv :=
  { h with npc := h.isPc_npcValue, told := ⟨s.trace, rfl⟩ }

/-- The event of a halt holds the `pc` that stays (R412). -/
theorem State.Inv.halt (h : s.Inv) : s.halt.Inv := { h with told := ⟨s.trace, rfl⟩ }

theorem State.Inv.takeInterrupt (h : s.Inv) (hr : s.run = .running) : s.takeInterrupt.Inv :=
  { h with srr0 := h.pc, pc := isPc_zero, told := endTold_of_running hr }

end

/-! ## Every ending, every step, and the start -/

theorem Effect.inv {i : Instr} {s t : State} (e : Effect i s t) (h : s.Inv) (hr : s.run = .running) : t.Inv := by
  cases e with
  | retire rt v => exact h.retire hr rt v
  | fpRetire op inputs rt v => exact h.fpRetire hr op inputs rt v
  | setFpscr v => exact (h.setFpscr v).advance hr
  | store ea v => exact (h.store ea v).advance hr
  | advance => exact h.advance hr
  | sync => exact h.clearDirty.advance hr
  | goto a => exact h.goto hr a
  | gotoIe a b => exact (h.goto hr a).setIe b
  | call rt a => exact (h.setReg rt s.link).goto hr a
  | callIe rt a b => exact ((h.setReg rt s.link).goto hr a).setIe b
  | halt => exact h.halt
  | stop u14 => exact h.stopAndSignal u14
  | stopd => exact h.stopAndSignal 0x3FFF#14
  | setSpr n ra => exact (h.setSpr n (s.reg0 ra)).advance hr
  | read rt ch v => exact ((h.emit hr (.chRead ch v)).retire hr rt v).setStalled false
  | write ch ra => exact ((h.emit hr (.chWrite ch (s.reg ra))).advance hr).setStalled false
  | readWaits | writeWaits => exact h.setStalled true

/-- Settles O9: a step is an interrupt entry or the fetched instruction, and both keep the invariant. -/
theorem invariantKept : Obligations.InvariantKept := by
  intro s t h hstep
  obtain ⟨hr, ⟨-, rfl⟩ | ⟨i, u, -, hexec, rfl⟩⟩ := step_next hstep
  · exact (h.takeInterrupt hr).tick
  · exact ((exec_effect hexec).inv h hr).tick

/-- Settles O10: local storage, Dirty and the trace are empty, the addresses and the FPSCR are 0. -/
theorem invariantAtReset : Obligations.InvariantAtReset where
  memory := rfl
  dirtyRising := rfl
  dirtyQuads := fun _ hd => nomatch hd
  pc := isPc_zero
  srr0 := isPc_zero
  npc := isPc_zero
  fpscr := BitVec.zero_and
  told := State.endTold_of_running rfl

end Sys2Proof.Machine
end

section
/-! The state at program entry (R39, R112). -/

namespace Sys2Proof.Machine

/-- A word is its four bytes, the first one most significant (R9). -/
theorem wordOf_eq_bytes (q : Quad) {k : Nat} (h : k < 4) :
    wordOf q k = byteOf q (4 * k) ++ byteOf q (4 * k + 1) ++ byteOf q (4 * k + 2) ++ byteOf q (4 * k + 3) := by
  unfold wordOf byteOf
  rw [BitVec.extractLsb'_append_extractLsb'_eq_extractLsb' (by omega),
    BitVec.extractLsb'_append_extractLsb'_eq_extractLsb' (by omega),
    BitVec.extractLsb'_append_extractLsb'_eq_extractLsb' (by omega)]
  congr 1
  omega

/-- What `MemRead` answers, by words (R52, R54). -/
theorem wordOf_loadQuad (m : Memory) (a : Nat) {k : Nat} (h : k < 4) :
    wordOf (Memory.loadQuad m a) k =
      Memory.byte m (a + 4 * k) ++ Memory.byte m (a + (4 * k + 1)) ++ Memory.byte m (a + (4 * k + 2)) ++
        Memory.byte m (a + (4 * k + 3)) := by
  rw [wordOf_eq_bytes _ h]
  congr <;> exact byteOf_loadQuad m a (by omega)

/-- Program entry defines the bytes of two words only (R39). -/
theorem Memory.unlisted_eq_none {a : Nat} (h1 : ¬ (0x3FFD0 ≤ a ∧ a < 0x3FFD4)) (h2 : ¬ (0x3FFF0 ≤ a ∧ a < 0x3FFF4)) :
    Memory.unlisted a = none := by
  rw [Memory.unlisted, List.lookup_eq_none_iff]
  simp only [entryCells, List.forall_mem_cons, bne_iff_ne]
  refine ⟨?_, ?_, ?_, ?_, ?_, ?_, ?_, ?_, List.forall_mem_nil _⟩ <;> omega

/-- Settles O11: the register and the memory that R39 defines, by words, and the fields that `reset` writes. -/
theorem entryState : Obligations.EntryState := by
  have stackPointer : wordOf (State.reset.reg 1#7) 0 = 0x3FFD0#32 := by decide
  have backChain : wordOf (Memory.loadQuad State.reset.ls 0x3FFD0) 0 = 0x3FFF0#32 := by
    rw [wordOf_loadQuad _ _ (by decide)]
    rfl
  have nullWord : wordOf (Memory.loadQuad State.reset.ls 0x3FFF0) 0 = 0#32 := by
    rw [wordOf_loadQuad _ _ (by decide)]
    rfl
  exact ⟨stackPointer, backChain, nullWord, fun _ h1 h2 => Memory.unlisted_eq_none h1 h2, rfl, rfl, rfl, rfl, rfl⟩

end Sys2Proof.Machine
end

section
/-! Local storage: what a load finds after a store, what an instruction can do to memory and to Dirty, and the step
that fetches an instruction from it (20_memory.md). -/

namespace Sys2Proof.Machine

/-! ## Loads after stores -/

/-- A store leaves a load from outside its sixteen bytes as it was (R53). -/
theorem Memory.loadQuad_storeQuad_of_disjoint (m : Memory) {a b : Nat} (v : Quad) (h : b + 16 ≤ a ∨ a + 16 ≤ b) :
    Memory.loadQuad (Memory.storeQuad m a v) b = Memory.loadQuad m b := by
  apply quad_ext_byte
  intro k hk
  have outside : ¬ (a ≤ b + k ∧ b + k < a + 16) := by omega
  rw [byteOf_loadQuad _ _ hk, byteOf_loadQuad _ _ hk, Memory.byte, Memory.byte, Memory.read_storeQuad, if_neg outside]

/-- Two quadwords of local storage are the same or have no byte in common (R51). -/
theorem lsa_disjoint_of_ne {x y : Word} (h : lsa x ≠ lsa y) : lsa y + 16 ≤ lsa x ∨ lsa x + 16 ≤ lsa y := by
  have := lsa_aligned x
  have := lsa_aligned y
  omega

theorem State.load_store_of_eq (s : State) {x y : Word} (v : Quad) (h : lsa x = lsa y) : (s.store x v).load y = v := by
  rw [State.load, State.store_ls, h, Memory.loadQuad_storeQuad]

theorem State.load_store_of_ne (s : State) {x y : Word} (v : Quad) (h : lsa x ≠ lsa y) :
    (s.store x v).load y = s.load y :=
  Memory.loadQuad_storeQuad_of_disjoint s.ls v (lsa_disjoint_of_ne h)

theorem exec_stqd (rc : Reg) (d : BitVec 14) (ra : Reg) (s : State) :
    exec (.stqd rc d ra) s = .next (s.store (s.eaD d ra) (s.reg rc)).advance := rfl

theorem exec_lqd (rt : Reg) (d : BitVec 14) (ra : Reg) (s : State) :
    exec (.lqd rt d ra) s = .next (s.retire rt (s.load (s.eaD d ra))) := rfl

/-- Settles O19: a store changes no register, so the load after it computes its address as before, and aligned
quadwords coincide or are disjoint. -/
theorem loadAfterStore : Obligations.LoadAfterStore := by
  intro rc ra rt rb d e s
  refine ⟨_, _, _, exec_stqd rc d ra s, exec_lqd rt e rb _, exec_lqd rt e rb s, fun same => ?_, fun apart => ?_⟩
  · rw [State.reg_retire_self]
    exact s.load_store_of_eq (s.reg rc) same
  · rw [State.reg_retire_self, State.reg_retire_self]
    exact s.load_store_of_ne (s.reg rc) apart

/-! ## What an instruction does to memory and to Dirty -/

/-- Everything that an instruction can do to local storage and Dirty: nothing, a store (R53, R62), or the emptying of
Dirty (R62). -/
theorem Effect.memory_cases {i : Instr} {s t : State} (h : Effect i s t) :
    (t.ls = s.ls ∧ t.dirty = s.dirty) ∨
      (∃ ea v, storeTo s i = some (lsa ea) ∧ t.ls = Memory.storeQuad s.ls (lsa ea) v ∧
        t.dirty = insertRising s.dirty (lsa ea)) ∨
      ((i = .sync ∨ i = .syncc) ∧ t.ls = s.ls ∧ t.dirty = []) := by
  cases h with
  | store ea v hs => exact .inr (.inl ⟨ea, v, hs, rfl, rfl⟩)
  | sync hi => exact .inr (.inr ⟨hi, rfl, rfl⟩)
  | retire | fpRetire | setFpscr | advance | goto | gotoIe | call | callIe | halt | stop | stopd | setSpr | read
  | readWaits | write | writeWaits => exact .inl ⟨rfl, rfl⟩

/-- Settles O13: only the stores write memory, each the sixteen bytes at its address. -/
theorem onlyStoresWriteMemory : Obligations.OnlyStoresWriteMemory := by
  intro i s t h
  obtain ⟨hls, hdirty⟩ | ⟨ea, v, hs, hls, -⟩ | ⟨hi, hls, -⟩ := (exec_effect h).memory_cases
  · exact ⟨fun a _ => by rw [hls], fun _ _ _ => hdirty⟩
  · refine ⟨fun a ha => ?_, fun hn => ?_⟩
    · have outside : ¬ (lsa ea ≤ a ∧ a < lsa ea + 16) := by
        have := ha (lsa ea) hs
        omega
      rw [hls, Memory.read_storeQuad, if_neg outside]
    · rw [hs] at hn
      cases hn
  · exact ⟨fun a _ => by rw [hls], fun _ hsync hsyncc => (hi.elim hsync hsyncc).elim⟩

/-! ## The step that fetches an instruction -/

/-- The fetch outside Dirty reads the four bytes at `pc` (R62, R64). -/
theorem State.fetchBytes_of_readBytes {s : State} {bs : List Byte} (hd : lsa s.pc ∉ s.dirty)
    (hb : Memory.readBytes s.ls s.pc.toNat 4 = some bs) : s.fetchBytes = .ok bs := by
  rw [State.fetchBytes, if_neg (by rwa [List.contains_iff_mem]), hb]

theorem State.fetch_of_decode {s : State} {bs rest : List Byte} {i : Instr} (hb : s.fetchBytes = .ok bs)
    (hi : decode bs = .ok (i, rest)) : s.fetch = .ok i := by
  rw [State.fetch, hb]
  simp only [hi]

/-- Settles O6: the fetch answers the decoded instruction, and the step ends as `exec` does. -/
theorem stepRunsDecodedInstruction : Obligations.StepRunsDecodedInstruction := by
  intro s i b0 b1 b2 b3 hr hq hd h0 h1 h2 h3 hi
  have fetched : s.fetch = .ok i :=
    State.fetch_of_decode (State.fetchBytes_of_readBytes hd (readBytes_four h0 h1 h2 h3)) hi
  have ran : step s = finishStep (exec i s) := by rw [step_of_fetch hr hq, fetched]
  refine ⟨fun t ht => ?_, fun f hf => ?_, fun r hrefused => ?_⟩
  · rw [ran, ht]
    rfl
  · rw [ran, hf]
    rfl
  · rw [ran, hrefused]
    rfl

end Sys2Proof.Machine
end

section
/-! The opcode table as a whole: no word matches two of its rows (R85), and the words that it leaves without a meaning
(R81). -/

namespace Sys2Proof

/-! ## One row for a word -/

/-- The row at a later place of the opcode table does not match a word that the row at an earlier place matches. -/
theorem not_hits_of_later_place {w : Word} {j k : Nat} {r q : OpRow} (hj : opTable[j]? = some r)
    (hk : opTable[k]? = some q) (hjk : j < k) (hr : r.hits w = true) : q.hits w = false := by
  obtain ⟨hj', rfl⟩ := List.getElem?_eq_some_iff.1 hj
  obtain ⟨hk', rfl⟩ := List.getElem?_eq_some_iff.1 hk
  exact OpRow.not_hits_of_apart (List.pairwise_iff_getElem.1 opTable_apart j k hj' hk' hjk) hr

/-- Two places of the opcode table whose rows match one word are the same place. -/
theorem opTable_place_unique {w : Word} {j k : Nat} {r q : OpRow} (hj : opTable[j]? = some r)
    (hk : opTable[k]? = some q) (hr : r.hits w = true) (hq : q.hits w = true) : j = k := by
  obtain hjk | hjk | hjk := Nat.lt_trichotomy j k
  · exact absurd hq (Bool.eq_false_iff.1 (not_hits_of_later_place hj hk hjk hr))
  · exact hjk
  · exact absurd hr (Bool.eq_false_iff.1 (not_hits_of_later_place hk hj hjk hq))

/-- Settles O2: the rows are pairwise apart, so the first row that matches is the only one. -/
theorem atMostOneRowMatches : Obligations.AtMostOneRowMatches :=
  fun _ => ⟨fun _ _ _ _ => opTable_place_unique, fun _ hr hw => decodeWord_of_hits hr hw, decodeWord_of_no_hits⟩

/-! ## Words that match no row -/

/-- A word that matches a row apart from the whole table is invalid: such a row describes words that the table leaves
out. -/
theorem decodeWord_of_apart_row {q : OpRow} (hq : ∀ r ∈ opTable, q.apart r = true) {w : Word} (hw : q.hits w = true) :
    decodeWord w = .error (.invalid w) :=
  decodeWord_of_no_hits fun r hr => OpRow.not_hits_of_apart (hq r hr) hw

/-- The words of an opcode with the feature bits D and E both set (R81). No such row is in the table, so what it builds
does not matter. -/
def doublySuffixedRow (op : BitVec 11) : OpRow := ⟨op ++ 0b0110000#7 ++ 0#14, 0xFFEC0000#32, fun _ => .lnop⟩

theorem doublySuffixedRow_hits {w : Word} (hd : w.getLsbD 19 = true) (he : w.getLsbD 18 = true) :
    (doublySuffixedRow (w.extractLsb' 21 11)).hits w = true := by
  unfold OpRow.hits doublySuffixedRow
  rw [beq_iff_eq]
  apply BitVec.eq_of_getLsbD_eq
  intro i hi
  interval_cases i <;> simp only [BitVec.getLsbD_append, BitVec.getLsbD_and, BitVec.getLsbD_extractLsb'] <;>
    simp [hd, he]

/-- The table gives an indirect branch with both suffixes no row (D21). -/
theorem doublySuffixedRow_apart : ∀ op ∈ [0b00110101000#11, 0b00110101001#11, 0b00110101010#11, 0b00110101011#11,
    0b00100101000#11, 0b00100101001#11, 0b00100101010#11, 0b00100101011#11], ∀ r ∈ opTable,
    (doublySuffixedRow op).apart r = true := by decide +kernel

/-- The words of the opcode of `hbr` with the bit P set (R81), whatever their offset; as above, what it builds does not
matter. -/
def hbrPRow : OpRow := ⟨0b00110101100#11 ++ 0b1000000#7 ++ 0#14, 0xFFF00000#32, fun _ => .hbrp⟩

theorem hbrPRow_hits {w : Word} (hop : w.extractLsb' 21 11 = 0b00110101100#11) (hp : w.getLsbD 20 = true) :
    hbrPRow.hits w = true := by
  unfold OpRow.hits hbrPRow
  rw [beq_iff_eq, ← hop]
  apply BitVec.eq_of_getLsbD_eq
  intro i hi
  interval_cases i <;> simp only [BitVec.getLsbD_append, BitVec.getLsbD_and, BitVec.getLsbD_extractLsb'] <;> simp [hp]

/-- The bits of ROH and ROL in the HBR format (R78). -/
def hbrOffsetBits : Word := 0x0000C07F#32

/-- A row of the table that such a word can match fixes ROH and ROL at zero: it is that of `hbrp` (S5). -/
theorem hbrPRow_apart_or_no_offset : ∀ r ∈ opTable, hbrPRow.apart r = true ∨
    r.mask &&& hbrOffsetBits = hbrOffsetBits ∧ r.pattern &&& hbrOffsetBits = 0#32 := by decide +kernel

/-- With the offset bits of a word zero, ROH and ROL are zero. -/
theorem hbr_fields_of_no_offset {w : Word} (h : w &&& hbrOffsetBits = 0#32) :
    w.extractLsb' 14 2 = 0#2 ∧ w.extractLsb' 0 7 = 0#7 := by
  have hroh : (w &&& hbrOffsetBits).extractLsb' 14 2 = w.extractLsb' 14 2 := by
    rw [BitVec.extractLsb'_and]
    exact BitVec.and_allOnes
  have hrol : (w &&& hbrOffsetBits).extractLsb' 0 7 = w.extractLsb' 0 7 := by
    rw [BitVec.extractLsb'_and]
    exact BitVec.and_allOnes
  rw [← hroh, ← hrol, h]
  decide

/-- An `hbr` word with P set that a row of the table matches has no offset. -/
theorem hbr_fields_of_hits {w : Word} (hop : w.extractLsb' 21 11 = 0b00110101100#11) (hp : w.getLsbD 20 = true)
    {r : OpRow} (hr : r ∈ opTable) (hw : r.hits w = true) : w.extractLsb' 14 2 = 0#2 ∧ w.extractLsb' 0 7 = 0#7 := by
  obtain hapart | ⟨hmask, hpattern⟩ := hbrPRow_apart_or_no_offset r hr
  · rw [OpRow.not_hits_of_apart hapart (hbrPRow_hits hop hp)] at hw
    cases hw
  · apply hbr_fields_of_no_offset
    rw [OpRow.hits, beq_iff_eq] at hw
    rw [← hmask, ← BitVec.and_assoc, hw, hpattern]

/-- Settles O3: no row stands for a branch with both suffixes, and the one row for `hbr` with P has no offset. -/
theorem doublySuffixedBranchesAreInvalid : Obligations.DoublySuffixedBranchesAreInvalid := by
  refine fun w => ⟨fun hop hd he => ?_, fun hop hp hoffset => ?_⟩
  · exact decodeWord_of_apart_row (doublySuffixedRow_apart _ hop) (doublySuffixedRow_hits hd he)
  · refine decodeWord_of_no_hits fun r hr => Bool.eq_false_iff.2 fun hw => ?_
    obtain ⟨hroh, hrol⟩ := hbr_fields_of_hits hop hp hr hw
    exact hoffset.elim (· hroh) (· hrol)

end Sys2Proof
end

section
/-! Encoding and decoding: each instruction's word matches the row at the instruction's own place of the table (R80), the
row builds the instruction again, and what the word does not hold has no effect (R71). -/

namespace Sys2Proof

open Machine

/-! ## The word of each instruction -/

/-- The constructors of `Instr` stand in the order of the table, so the row of an instruction is at its constructor's
number. -/
theorem decodeWord_encode_of_row {i : Instr} {r : OpRow} (hr : opTable[i.ctorIdx]? = some r)
    (fixed : encode i &&& r.mask = r.pattern) (fields : r.build (encode i) = i.clearIgnored) :
    decodeWord (encode i) = .ok i.clearIgnored := by
  rw [decodeWord_of_row i.ctorIdx hr fixed, fields]

/-- The decoder reads an instruction from the word that the encoder writes for it: by formats (R78), the fixed bits are
those of the row, and each field gives its operand back. -/
theorem decodeWord_encode (i : Instr) : decodeWord (encode i) = .ok i.clearIgnored := by
  cases i with
  | lqx | stqx | cbd | cbx | chd | chx | cwd | cwx | cdd | cdx
  | a | ah | addx | cg | cgx | sf | sfh | sfx | bg | bgx | mpy | mpyu | mpyh | mpys | mpyhh | mpyhha | mpyhhu | mpyhhau
  | clz | cntb | fsm | fsmh | fsmb | gb | gbh | gbb | avgb | absdb | sumb | xsbh | xshw | xswd
  | and | andc | or | orc | orx | xor | nand | nor | eqv
  | shl | shlh | shlhi | shli | shlqbi | shlqbii | shlqby | shlqbybi | shlqbyi
  | rot | roth | rothi | roti | rotqbi | rotqbii | rotqby | rotqbybi | rotqbyi
  | rotm | rotmi | rothm | rothmi | rotma | rotmai | rotmah | rotmahi
  | rotqmbi | rotqmbii | rotqmby | rotqmbybi | rotqmbyi
  | ceqb | ceqh | ceq | cgtb | cgth | cgt | clgtb | clgth | clgt | heq | hgt | hlgt
  | fa | fs | fm | dfa | dfs | dfm | dfma | dfms | dfnms | dfnma | frest | frsqest | fi | fesd | frds
  | fceq | fcmeq | fcgt | fcmgt | fscrrd | fscrwr
  | stopd | lnop | nop | dsync | mfspr | mtspr | rdch | rchcnt | wrch =>
    exact decodeWord_encode_of_row rfl (encRR_fixed ..)
      (by simp only [encode, Instr.clearIgnored, fT_encRR, fA_encRR, fB_encRR, fI7_encRR])
  | bi | bid | bie | bisl | bisld | bisle | bisled | bisledd | bislede | iret | iretd | irete
  | biz | bizd | bize | binz | binzd | binze | bihz | bihzd | bihze | bihnz | bihnzd | bihnze =>
    exact decodeWord_encode_of_row rfl (encRR_de ..) (by simp only [encode, Instr.clearIgnored, fT_encRR, fA_encRR])
  | sync | syncc => exact decodeWord_encode_of_row rfl (encRR_sync ..) rfl
  | mpya | selb | shufb | fma | fms | fnms =>
    exact decodeWord_encode_of_row rfl (encRRR_fixed ..)
      (by simp only [encode, Instr.clearIgnored, fRT_encRRR, fA_encRRR, fB_encRRR, fT_encRRR])
  | cflts | cfltu | csflt | cuflt =>
    exact decodeWord_encode_of_row rfl (encRI8_fixed ..)
      (by simp only [encode, Instr.clearIgnored, fT_encRI8, fA_encRI8, fI8_encRI8, sub_sub_cancel])
  | lqd | stqd =>
    exact decodeWord_encode_of_row rfl (encRI10_fixed ..)
      (by simp only [encode, Instr.clearIgnored, fT_encRI10, fA_encRI10, fI10_encRI10, field_s14])
  | ahi | ai | sfhi | sfi | mpyi | mpyui | andbi | andhi | andi | orbi | orhi | ori | xorbi | xorhi | xori
  | ceqbi | ceqhi | ceqi | cgtbi | cgthi | cgti | clgtbi | clgthi | clgti | heqi | hgti | hlgti =>
    exact decodeWord_encode_of_row rfl (encRI10_fixed ..)
      (by simp only [encode, Instr.clearIgnored, fT_encRI10, fA_encRI10, fI10_encRI10])
  | lqa | lqr | stqa | stqr | br | bra | brsl | brasl | brz | brnz | brhz | brhnz =>
    exact decodeWord_encode_of_row rfl (encRI16_fixed ..)
      (by simp only [encode, Instr.clearIgnored, fT_encRI16, fI16_encRI16, field_s18])
  | il | ilh | ilhu | iohl | fsmbi =>
    exact decodeWord_encode_of_row rfl (encRI16_fixed ..)
      (by simp only [encode, Instr.clearIgnored, fT_encRI16, fI16_encRI16])
  | ila =>
    exact decodeWord_encode_of_row rfl (encRI18_fixed ..)
      (by simp only [encode, Instr.clearIgnored, fT_encRI18, fI18_encRI18])
  | hbr =>
    exact decodeWord_encode_of_row rfl (encHBR_fixed ..)
      (by simp only [encode, Instr.clearIgnored, fRoHbr_encHBR, fA_encHBR, field_s11])
  | hbra | hbrr =>
    exact decodeWord_encode_of_row rfl (encHBRA_fixed ..)
      (by simp only [encode, Instr.clearIgnored, fRoHbra_encHBRA, fI16_encHBRA, field_s11, field_s18])
  | hbrp => exact decodeWord_encode_of_row rfl (by decide) rfl
  | stop =>
    exact decodeWord_encode_of_row rfl (encStop_fixed ..) (by simp only [encode, Instr.clearIgnored, fI14_encStop])

theorem decode_encodeBytes (i : Instr) (rest : List Byte) :
    decode (encodeBytes i ++ rest) = .ok (i.clearIgnored, rest) := by
  rw [encodeBytes, decode_bytesOfWord, decodeWord_encode]

/-- Settles O1: the bytes make the word again, and the word decodes at the instruction's own row. -/
theorem decodeEncodeRoundTrip : Obligations.DecodeEncodeRoundTrip := by
  refine fun i rest => ⟨decode_encodeBytes i rest, fun noneIgnored => ?_⟩
  rw [decode_encodeBytes, noneIgnored]

/-! ## The ignored bits have no effect -/

/-- Clearing the four low bits of an s14 rounds it down to a multiple of 16. -/
theorem toInt_clearLow_s14 (v : BitVec 14) : (clearLow 4 v).toInt = v.toInt / 16 * 16 := by
  have hnat := toNat_clearLow 4 v
  rw [BitVec.toInt_eq_toNat_cond, BitVec.toInt_eq_toNat_cond]
  split <;> split <;> omega

/-- Clearing the two low bits of an s18 rounds it down to a multiple of 4. -/
theorem toInt_clearLow_s18 (v : BitVec 18) : (clearLow 2 v).toInt = v.toInt / 4 * 4 := by
  have hnat := toNat_clearLow 2 v
  rw [BitVec.toInt_eq_toNat_cond, BitVec.toInt_eq_toNat_cond]
  split <;> split <;> omega

/-- The displacement of the d-form ignores the four low bits (R120). -/
theorem dispD_clearLow (v : BitVec 14) : dispD (clearLow 4 v) = dispD v := by
  apply BitVec.eq_of_toNat_eq
  have hcleared := toNat_dispD (clearLow 4 v)
  have hv := toNat_dispD v
  rw [toInt_clearLow_s14] at hcleared
  omega

/-- An address or offset ignores the two low bits (R120, R300). -/
theorem off18_clearLow (v : BitVec 18) : off18 (clearLow 2 v) = off18 v := by
  apply BitVec.eq_of_toNat_eq
  have hcleared := toNat_off18 (clearLow 2 v)
  have hv := toNat_off18 v
  rw [toInt_clearLow_s18] at hcleared
  omega

theorem eaD_clearLow (s : State) (v : BitVec 14) (ra : Reg) : s.eaD (clearLow 4 v) ra = s.eaD v ra := by
  rw [State.eaD, dispD_clearLow, State.eaD]

theorem eaRel_clearLow (s : State) (v : BitVec 18) : s.eaRel (clearLow 2 v) = s.eaRel v := by
  rw [State.eaRel, off18_clearLow, State.eaRel]

/-- The instructions with ignored bits use their operand through `dispD` or `off18`, or are hints, which do not use it
(R334); of the others nothing is cleared. -/
theorem exec_clearIgnored (i : Instr) (s : State) : exec i.clearIgnored s = exec i s := by
  cases i with
  | lqd | stqd => simp only [Instr.clearIgnored, exec, execLqd, execStqd, eaD_clearLow]
  | lqa | stqa | bra | brasl =>
    simp only [Instr.clearIgnored, exec, execLqa, execStqa, execBra, execBrasl, off18_clearLow]
  | lqr | stqr | br | brsl | brz | brnz | brhz | brhnz =>
    simp only [Instr.clearIgnored, exec, execLqr, execStqr, execBr, execBrsl, execBrz, execBrnz, execBrhz, execBrhnz,
      eaRel_clearLow]
  | hbr | hbra | hbrr => rfl
  | _ => rfl

/-- Settles O4: the word decodes to the instruction with its ignored bits cleared, which does the same. -/
theorem encodedStatementDoesTheSame : Obligations.EncodedStatementDoesTheSame :=
  fun i => ⟨i.clearIgnored, decodeWord_encode i, exec_clearIgnored i⟩

end Sys2Proof
end

section
/-! Loads and stores of a quadword (R120 to R128), and the controls that insert a scalar into a quadword by `shufb`
(R129 to R137): the addresses in numbers, then one lemma for each of the two kinds of meaning. -/

namespace Sys2Proof.Machine

/-! ## The quadword that an address form names (R51, R120) -/

theorem lsa_eaD (s : State) (s14 : BitVec 14) (ra : Reg) :
    lsa (s.eaD s14 ra) = quadOf ((wordOf (s.reg ra) 0).toNat + s14.toInt / 16 * 16) := by
  apply lsa_eq_quadOf
  have hdisp := toNat_dispD s14
  rw [State.eaD, State.reg0, BitVec.toNat_add]
  omega

theorem lsa_eaX (s : State) (ra rb : Reg) :
    lsa (s.eaX ra rb) = quadOf ((wordOf (s.reg ra) 0).toNat + (wordOf (s.reg rb) 0).toNat) := by
  apply lsa_eq_quadOf
  rw [State.eaX, State.reg0, State.reg0, BitVec.toNat_add]
  omega

/-- The two ignored bits of `s18` are among the four that the quadword address drops. -/
theorem lsa_off18 (s18 : BitVec 18) : lsa (off18 s18) = quadOf s18.toInt := by
  have hoff := toNat_off18 s18
  rw [lsa_eq, quadOf, Config.lsSize]
  omega

theorem lsa_eaRel (s : State) (s18 : BitVec 18) :
    lsa (s.eaRel s18) = quadOf (s.pc.toNat + s18.toInt / 4 * 4) := by
  apply lsa_eq_quadOf
  have hoff := toNat_off18 s18
  rw [State.eaRel, BitVec.toNat_add]
  omega

/-! ## Loads and stores -/

/-- What an instruction does that loads from the address `ea` (R52). -/
theorem computes_of_load {i : Instr} {s : State} {rt : Reg} {ea : Word} {a : Nat}
    (h : exec i s = .next (s.retire rt (s.load ea))) (ha : lsa ea = a) :
    Computes i s rt fun v => ∀ k, k < 16 → byteOf v k = Memory.byte s.ls (a + k) := by
  subst ha
  exact computes_of_retire h fun _ hk => byteOf_loadQuad _ _ hk

/-- Settles O17: each load ends in `retire` with the quadword at its address. -/
theorem loadQuadword : Obligations.LoadQuadword :=
  fun rt ra rb s14 s18 s =>
    ⟨computes_of_load (exec_lqd rt s14 ra s) (lsa_eaD s s14 ra), computes_of_load rfl (lsa_eaX s ra rb),
      computes_of_load rfl (lsa_off18 s18), computes_of_load rfl (lsa_eaRel s s18)⟩

/-- Settles O18: each store ends in `store` and `advance`, with the frame that `stores_of_store` states. -/
theorem storeQuadword : Obligations.StoreQuadword :=
  fun rc ra rb s14 s18 s =>
    ⟨⟨stores_of_store (exec_stqd rc s14 ra s), lsa_eaD s s14 ra⟩, ⟨stores_of_store rfl, lsa_eaX s ra rb⟩,
      ⟨stores_of_store rfl, lsa_off18 s18⟩, ⟨stores_of_store rfl, lsa_eaRel s s18⟩⟩

/-! ## Insertion controls -/

/-- The sum of two words has the low four bits of the exact sum: the reduction modulo 2^32 does not reach them. -/
theorem toNat_add_mod_sixteen (x y : Word) : (x + y).toNat % 16 = (x.toNat + y.toNat) % 16 := by
  rw [BitVec.toNat_add]
  omega

/-- What an instruction does that makes the insertion control for the sum of two words (R129). -/
theorem computes_of_insertMask {i : Instr} {s : State} {rt : Reg} {n first : Nat} {x y : Word}
    (h : exec i s = .next (s.retire rt (insertMask n first (x + y).toNat))) (hf : first + n ≤ 16) :
    Computes i s rt (IsInsertion n first (x.toNat + y.toNat)) :=
  computes_of_retire h ((isInsertion_congr (toNat_add_mod_sixteen x y)).1 (isInsertion_insertMask _ hf))

/-- The d-form, whose displacement is not negative (R129). -/
theorem computes_of_insertMask_d {i : Instr} {s : State} {rt ra : Reg} {u7 : BitVec 7} {n first : Nat}
    (h : exec i s = .next (s.retire rt (insertMask n first (s.reg0 ra + zext32 u7).toNat))) (hf : first + n ≤ 16) :
    Computes i s rt (IsInsertion n first ((wordOf (s.reg ra) 0).toNat + u7.toNat)) := by
  rw [← toNat_zext32 u7 (by decide)]
  exact computes_of_insertMask h hf

/-- Settles O20: each of the eight ends in `retire` with the control for its size and address. -/
theorem insertionControls : Obligations.InsertionControls :=
  fun _ _ _ _ _ =>
    ⟨computes_of_insertMask_d rfl (by decide), computes_of_insertMask rfl (by decide),
      computes_of_insertMask_d rfl (by decide), computes_of_insertMask rfl (by decide),
      computes_of_insertMask_d rfl (by decide), computes_of_insertMask rfl (by decide),
      computes_of_insertMask_d rfl (by decide), computes_of_insertMask rfl (by decide)⟩

/-! ## Insertion by `shufb` -/

/-- A selector below 16 takes a byte of the first source (R220). -/
theorem shuffleByte_of_lt {x y : Quad} {c : Byte} {j : Nat} (hc : c.toNat = j) (hj : j < 16) :
    shuffleByte x y c = byteOf x j := by
  have hmod : j % 32 = j := by omega
  rw [shuffleByte_eq, hc, hmod, if_pos (by omega), if_pos hj]

/-- A selector from 16 to 31 takes a byte of the second source (R220). -/
theorem shuffleByte_of_add {x y : Quad} {c : Byte} {j : Nat} (hc : c.toNat = 0x10 + j) (hj : j < 16) :
    shuffleByte x y c = byteOf y j := by
  have hmod : (0x10 + j) % 32 = 0x10 + j := by omega
  rw [shuffleByte_eq, hc, hmod, if_pos (by omega), if_neg (by omega), Nat.add_sub_cancel_left]

/-- With an insertion control, `shufb` takes the field from the scalar of its first source and every other byte from
its place in the second (R129). -/
theorem byteOf_shuffle_of_isInsertion {n first ea : Nat} {c : Quad} (hc : IsInsertion n first ea c)
    (hf : first + n ≤ 16) (x y : Quad) {k : Nat} (hk : k < 16) :
    byteOf (shuffle x y c) k =
      if fieldAt n ea ≤ k ∧ k < fieldAt n ea + n then byteOf x (first + (k - fieldAt n ea)) else byteOf y k := by
  have selector := hc k hk
  rw [shuffle, byteOf_ofBytes _ hk]
  split
  next inside =>
    rw [if_pos inside] at selector
    exact shuffleByte_of_lt selector (by omega)
  next outside =>
    rw [if_neg outside] at selector
    exact shuffleByte_of_add selector hk

/-- An instruction that leaves an insertion control in its target lets `shufb` insert a scalar (R129). -/
theorem insertsScalar_of_computes {i : Instr} {s : State} {rt : Reg} {n first ea : Nat}
    (h : Computes i s rt (IsInsertion n first ea)) (hf : first + n ≤ 16) : InsertsScalar i s rt n first ea := by
  obtain ⟨t, ran, control, -⟩ := h
  refine ⟨t, ran, fun u r v q c same => ?_⟩
  have later : IsInsertion n first ea (u.reg c) := by rwa [same]
  exact computes_of_retire rfl fun _ hk => byteOf_shuffle_of_isInsertion later hf _ _ hk

/-- Settles O21: the eight controls are those of O20, and `shufb` inserts with each of them. -/
theorem insertionByShuffle : Obligations.InsertionByShuffle := by
  intro rt ra rb u7 s
  obtain ⟨cbd, cbx, chd, chx, cwd, cwx, cdd, cdx⟩ := insertionControls rt ra rb u7 s
  exact ⟨insertsScalar_of_computes cbd (by decide), insertsScalar_of_computes cbx (by decide),
    insertsScalar_of_computes chd (by decide), insertsScalar_of_computes chx (by decide),
    insertsScalar_of_computes cwd (by decide), insertsScalar_of_computes cwx (by decide),
    insertsScalar_of_computes cdd (by decide), insertsScalar_of_computes cdx (by decide)⟩

end Sys2Proof.Machine
end

section
/-! Constant formation (R141 to R145), select masks spread from bits (R146, R179 to R181) and bits gathered from
elements (R182 to R184): the halves of a word and the elements of a mask as laws, then what each instruction leaves in
`rt`. -/

namespace Sys2Proof.Machine

/-! ## Halves of the words of a quadword -/

theorem halfOf_ofWords_even (f : Nat → Word) {k : Nat} (h : k < 4) : halfOf (ofWords f) (2 * k) = hi16 (f k) := by
  rw [← hi16_wordOf _ h, wordOf_ofWords f h]

theorem halfOf_ofWords_odd (f : Nat → Word) {k : Nat} (h : k < 4) : halfOf (ofWords f) (2 * k + 1) = lo16 (f k) := by
  rw [← lo16_wordOf _ h, wordOf_ofWords f h]

theorem zext32_eq_append (v : Half) : zext32 v = 0#16 ++ v := BitVec.setWidth_eq_append (by decide)

theorem hi16_or_zext32 (w : Word) (v : Half) : hi16 (w ||| zext32 v) = hi16 w := by
  have distribute : hi16 (w ||| zext32 v) = hi16 w ||| hi16 (zext32 v) := BitVec.extractLsb'_or
  rw [distribute, zext32_eq_append, hi16_append, BitVec.or_zero]

theorem lo16_or_zext32 (w : Word) (v : Half) : lo16 (w ||| zext32 v) = lo16 w ||| v := by
  have distribute : lo16 (w ||| zext32 v) = lo16 w ||| lo16 (zext32 v) := BitVec.extractLsb'_or
  rw [distribute, zext32_eq_append, lo16_append]

/-! ## Constant formation -/

/-- Every word is `v` over zeros (R144). -/
theorem halves_ofWords_append_zero (v : Half) {k : Nat} (h : k < 4) :
    halfOf (ofWords fun _ => v ++ 0#16) (2 * k) = v ∧ halfOf (ofWords fun _ => v ++ 0#16) (2 * k + 1) = 0#16 :=
  ⟨(halfOf_ofWords_even _ h).trans (hi16_append v 0#16), (halfOf_ofWords_odd _ h).trans (lo16_append v 0#16)⟩

/-- `v` is ORed into the lower half of every word (R145). -/
theorem halves_mapWords_or_zext32 (q : Quad) (v : Half) {k : Nat} (h : k < 4) :
    halfOf (mapWords (· ||| zext32 v) q) (2 * k) = halfOf q (2 * k) ∧
      halfOf (mapWords (· ||| zext32 v) q) (2 * k + 1) = halfOf q (2 * k + 1) ||| v := by
  constructor
  · rw [mapWords, halfOf_ofWords_even _ h, hi16_or_zext32, hi16_wordOf q h]
  · rw [mapWords, halfOf_ofWords_odd _ h, lo16_or_zext32, lo16_wordOf q h]

/-- Settles O22: each of the five ends in `retire`, with the elements that the laws above read. -/
theorem constantFormation : Obligations.ConstantFormation := by
  intro rt u16 u18 s
  refine ⟨computes_of_retire rfl fun k hk => ?il, computes_of_retire rfl fun k hk => ?ila,
    computes_of_retire rfl fun k hk => ?ilh, computes_of_retire rfl fun k hk => ?ilhu,
    computes_of_retire rfl fun k hk => ?iohl⟩
  case il => rw [wordOf_ofWords _ hk, toInt_sext32 u16 (by decide)]
  case ila => rw [wordOf_ofWords _ hk, toNat_zext32 u18 (by decide)]
  case ilh => exact halfOf_ofHalves _ hk
  case ilhu => exact halves_ofWords_append_zero u16 hk
  case iohl => exact halves_mapWords_or_zext32 (s.reg rt) u16 hk

/-! ## Masks spread from bits and bits gathered from elements -/

theorem byteOf_bitMask8 (m : Half) {k : Nat} (h : k < 16) :
    byteOf (bitMask8 m) k = if m.getLsbD (15 - k) then 0xFF#8 else 0x00#8 := byteOf_ofBytes _ h

theorem halfOf_bitMask16 (q : Quad) {k : Nat} (h : k < 8) :
    halfOf (bitMask16 q) k = if (wordOf q 0).getLsbD (7 - k) then 0xFFFF#16 else 0x0000#16 := halfOf_ofHalves _ h

theorem wordOf_bitMask32 (q : Quad) {k : Nat} (h : k < 4) :
    wordOf (bitMask32 q) k = if (wordOf q 0).getLsbD (3 - k) then 0xFFFFFFFF#32 else 0x00000000#32 := wordOf_ofWords _ h

theorem getLsbD_lo16 (w : Word) {i : Nat} (h : i < 16) : (lo16 w).getLsbD i = w.getLsbD i := by
  simp [lo16, h]

/-- What an instruction does that gathers the bits `f 0` to `f (n - 1)`, the first the most significant (R182 to
R184). -/
theorem computes_of_gather {i : Instr} {s : State} {rt : Reg} (f : Nat → Bool) {n : Nat}
    (h : exec i s = .next (s.retire rt (inWord0 (gather f n)))) (hn : n ≤ 32) :
    Computes i s rt fun v => (∀ k, 0 < k → k < 4 → wordOf v k = 0#32) ∧
      ∀ j, (wordOf v 0).getLsbD j = (decide (j < n) && f (n - 1 - j)) := by
  refine computes_of_retire h ⟨fun k h0 hk => wordOf_inWord0_of_pos _ h0 hk, fun j => ?_⟩
  rw [wordOf_inWord0_zero, getLsbD_gather f j hn]

/-- Settles O23: the masks element by element, and the gathered bits by `computes_of_gather`. -/
theorem masksAndGatheredBits : Obligations.MasksAndGatheredBits := by
  intro rt ra u16 s
  refine ⟨computes_of_retire rfl fun k hk => ?fsmbi, computes_of_retire rfl fun k hk => ?fsmb,
    computes_of_retire rfl fun k hk => ?fsmh, computes_of_retire rfl fun k hk => ?fsm, ?gb, ?gbh, ?gbb⟩
  case fsmbi => exact byteOf_bitMask8 u16 hk
  case fsmb => rw [byteOf_bitMask8 _ hk, getLsbD_lo16 _ (by omega), State.reg0]
  case fsmh => exact halfOf_bitMask16 (s.reg ra) hk
  case fsm => exact wordOf_bitMask32 (s.reg ra) hk
  case gb => exact computes_of_gather (fun k => (wordOf (s.reg ra) k).getLsbD 0) rfl (by decide)
  case gbh => exact computes_of_gather (fun k => (halfOf (s.reg ra) k).getLsbD 0) rfl (by decide)
  case gbb => exact computes_of_gather (fun k => (byteOf (s.reg ra) k).getLsbD 0) rfl (by decide)

end Sys2Proof.Machine
end

section
/-! Integer arithmetic (R151 to R178, R185 to R190): what each operation makes of one element, as numbers, then what
each instruction leaves in `rt`. -/

namespace Sys2Proof.Machine

/-- A number that fits in an element is the value of that element. -/
theorem toNat_ofNat_of_lt {n m : Nat} (h : m < 2 ^ n) : (BitVec.ofNat n m).toNat = m := by
  rw [BitVec.toNat_ofNat, Nat.mod_eq_of_lt h]

/-! ## Sums and differences with an immediate (R153, R154, R160, R161) -/

theorem add_sext32_eq_ofInt (x : Word) (s10 : BitVec 10) : x + sext32 s10 = BitVec.ofInt 32 (x.toInt + s10.toInt) := by
  rw [add_eq_ofInt, toInt_sext32 s10 (by decide)]

theorem add_sext16_eq_ofInt (x : Half) (s10 : BitVec 10) : x + sext16 s10 = BitVec.ofInt 16 (x.toInt + s10.toInt) := by
  rw [add_eq_ofInt, toInt_sext16 s10 (by decide)]

theorem sext32_sub_eq_ofInt (s10 : BitVec 10) (x : Word) : sext32 s10 - x = BitVec.ofInt 32 (s10.toInt - x.toInt) := by
  rw [sub_eq_ofInt, toInt_sext32 s10 (by decide)]

theorem sext16_sub_eq_ofInt (s10 : BitVec 10) (x : Half) : sext16 s10 - x = BitVec.ofInt 16 (s10.toInt - x.toInt) := by
  rw [sub_eq_ofInt, toInt_sext16 s10 (by decide)]

/-- Settles O24: a sum or difference of bit vectors is that of their signed values, narrowed. -/
theorem addSubtract : Obligations.AddSubtract := by
  intro rt ra rb s10 s
  refine ⟨computes_of_retire rfl fun k hk => ?a, computes_of_retire rfl fun k hk => ?ah,
    computes_of_retire rfl fun k hk => ?ai, computes_of_retire rfl fun k hk => ?ahi,
    computes_of_retire rfl fun k hk => ?sf, computes_of_retire rfl fun k hk => ?sfh,
    computes_of_retire rfl fun k hk => ?sfi, computes_of_retire rfl fun k hk => ?sfhi⟩
  case a => rw [wordOf_mapWords2 _ _ _ hk, add_eq_ofInt]
  case ah => rw [halfOf_mapHalves2 _ _ _ hk, add_eq_ofInt]
  case ai => rw [wordOf_mapWords _ _ hk, add_sext32_eq_ofInt]
  case ahi => rw [halfOf_mapHalves _ _ hk, add_sext16_eq_ofInt]
  case sf => rw [wordOf_mapWords2 _ _ _ hk, sub_eq_ofInt]
  case sfh => rw [halfOf_mapHalves2 _ _ _ hk, sub_eq_ofInt]
  case sfi => rw [wordOf_mapWords _ _ hk, sext32_sub_eq_ofInt]
  case sfhi => rw [halfOf_mapHalves _ _ hk, sext16_sub_eq_ofInt]

/-! ## Carry and borrow (R155 to R157, R162 to R164) -/

theorem bit0_lt_two (w : Word) : bit0 w < 2 := Nat.mod_lt _ (by decide)

theorem toNat_bitWord (b : Bool) : (bitWord b).toNat = if b then 1 else 0 := by
  cases b <;> rfl

/-- The sum with a carry in (R155). -/
theorem toNat_add_carry (x y : Word) {c : Nat} (hc : c < 2) :
    (x + y + BitVec.ofNat 32 c).toNat = (x.toNat + y.toNat + c) % 2 ^ 32 := by
  rw [BitVec.toNat_add, BitVec.toNat_add, toNat_ofNat_of_lt (by omega), Nat.mod_add_mod]

/-- The carry out is the bit above the word (R156, R157). -/
theorem toNat_carryOut (x y : Word) {c : Nat} (hc : c < 2) :
    (carryOut x y c).toNat = (x.toNat + y.toNat + c) / 2 ^ 32 := by
  have hx := x.isLt
  have hy := y.isLt
  rw [carryOut, toNat_bitWord]
  simp only [decide_eq_true_eq]
  split <;> omega

/-- The difference with a borrow in, for `c = 0` (R162). -/
theorem toNat_sub_borrow (x y : Word) {c : Nat} (hc : c < 2) :
    ((y - x - BitVec.ofNat 32 (1 - c)).toNat : Int) = (y.toNat - x.toNat - (1 - c) : Int) % 2 ^ 32 := by
  have hx := x.isLt
  have hy := y.isLt
  rw [BitVec.toNat_sub, BitVec.toNat_sub, toNat_ofNat_of_lt (by omega)]
  omega

/-- No borrow is needed when the exact difference is not negative (R163, R164). -/
theorem toNat_noBorrow (x y : Word) (c : Nat) :
    (noBorrow x y c).toNat = if (y.toNat - x.toNat - (1 - c) : Int) < 0 then 0 else 1 := by
  rw [noBorrow, toNat_bitWord]
  simp only [decide_eq_true_eq]
  split <;> split <;> omega

/-- Settles O25: each word by the lemma on its operation, the carry in being `bit0` of the old word. -/
theorem carryAndBorrow : Obligations.CarryAndBorrow := by
  intro rt ra rb s
  refine ⟨computes_of_retire rfl fun k hk => ?addx, computes_of_retire rfl fun k hk => ?cg,
    computes_of_retire rfl fun k hk => ?cgx, computes_of_retire rfl fun k hk => ?sfx,
    computes_of_retire rfl fun k hk => ?bg, computes_of_retire rfl fun k hk => ?bgx⟩
  case addx => rw [wordOf_mapWords3 _ _ _ _ hk, toNat_add_carry _ _ (bit0_lt_two _), bit0]
  case cg => rw [wordOf_mapWords2 _ _ _ hk, toNat_carryOut _ _ (by decide), Nat.add_zero]
  case cgx => rw [wordOf_mapWords3 _ _ _ _ hk, toNat_carryOut _ _ (bit0_lt_two _), bit0]
  case sfx =>
    rw [wordOf_mapWords3 _ _ _ _ hk, toNat_sub_borrow _ _ (bit0_lt_two _), bit0, Int.natCast_mod, Nat.cast_ofNat]
  case bg =>
    rw [wordOf_mapWords2 _ _ _ hk, toNat_noBorrow]
    congr 1
    rw [eq_iff_iff]
    omega
  case bgx => rw [wordOf_mapWords3 _ _ _ _ hk, toNat_noBorrow, bit0, Int.natCast_mod, Nat.cast_ofNat]

/-! ## Products (R165 to R176) -/

/-- A signed product and an addend, modulo 2^32 (R170, R174). -/
theorem mulS_add_eq_ofInt (x y : Half) (z : Word) : mulS x y + z = BitVec.ofInt 32 (x.toInt * y.toInt + z.toInt) := by
  rw [add_eq_ofInt, toInt_mulS]

/-- Settles O26: signed products of halfwords are exact in a word. -/
theorem signedMultiply : Obligations.SignedMultiply := by
  intro rt ra rb rc s
  refine ⟨computes_of_retire rfl fun k hk => ?mpy, computes_of_retire rfl fun k hk => ?mpya,
    computes_of_retire rfl fun k hk => ?mpyhh, computes_of_retire rfl fun k hk => ?mpyhha⟩
  case mpy => rw [wordOf_mapWords2 _ _ _ hk, lo16_wordOf _ hk, lo16_wordOf _ hk, toInt_mulS]
  case mpya => rw [wordOf_mapWords3 _ _ _ _ hk, lo16_wordOf _ hk, lo16_wordOf _ hk, mulS_add_eq_ofInt]
  case mpyhh => rw [wordOf_mapWords2 _ _ _ hk, hi16_wordOf _ hk, hi16_wordOf _ hk, toInt_mulS]
  case mpyhha => rw [wordOf_mapWords3 _ _ _ _ hk, hi16_wordOf _ hk, hi16_wordOf _ hk, mulS_add_eq_ofInt]

/-- Settles O27: unsigned products of halfwords are exact in a word. -/
theorem unsignedMultiply : Obligations.UnsignedMultiply := by
  intro rt ra rb s10 s
  refine ⟨computes_of_retire rfl fun k hk => ?mpyu, computes_of_retire rfl fun k hk => ?mpyui,
    computes_of_retire rfl fun k hk => ?mpyhhu, computes_of_retire rfl fun k hk => ?mpyhhau⟩
  case mpyu => rw [wordOf_mapWords2 _ _ _ hk, lo16_wordOf _ hk, lo16_wordOf _ hk, toNat_mulU]
  case mpyui => rw [wordOf_mapWords _ _ hk, lo16_wordOf _ hk, toNat_mulU, sext16_eq_ofInt s10 (by decide)]
  case mpyhhu => rw [wordOf_mapWords2 _ _ _ hk, hi16_wordOf _ hk, hi16_wordOf _ hk, toNat_mulU]
  case mpyhhau =>
    rw [wordOf_mapWords3 _ _ _ _ hk, hi16_wordOf _ hk, hi16_wordOf _ hk, BitVec.toNat_add, toNat_mulU]

theorem toNat_lo16 (w : Word) : (lo16 w).toNat = w.toNat % 2 ^ 16 := by
  rw [lo16, BitVec.extractLsb'_toNat, Nat.shiftRight_zero]

/-- A halfword moved to the upper half of a word (R171). -/
theorem toNat_append_zero (v : Half) : (v ++ 0#16).toNat = v.toNat * 2 ^ 16 := by
  rw [BitVec.toNat_append, BitVec.toNat_ofNat, Nat.zero_mod, Nat.or_zero, Nat.shiftLeft_eq]

/-- The upper half of a word moved down with its sign is the floor of a division by 2^16 (R172). -/
theorem toInt_sext32_hi16 (w : Word) : (sext32 (hi16 w)).toInt = w.toInt / 2 ^ 16 := by
  rw [toInt_sext32 _ (by decide), toInt_hi16]

theorem mpysProduct_of_high (h : Config.mpysHalf = .high) (x y : Word) :
    mpysProduct x y = mulS (hi16 x) (hi16 y) := by
  rw [mpysProduct, h]

theorem mpysProduct_of_low (h : Config.mpysHalf = .low) (x y : Word) :
    mpysProduct x y = mulS (lo16 x) (lo16 y) := by
  rw [mpysProduct, h]

/-- Settles O28: exact products, then what is kept of them; `mpys` for each reading of MPYS_HALF. -/
theorem mixedMultiply : Obligations.MixedMultiply := by
  intro rt ra rb s10 s
  refine ⟨computes_of_retire rfl fun k hk => ?mpyi, computes_of_retire rfl fun k hk => ?mpyh,
    computes_of_retire rfl fun k hk => ⟨fun high => ?mpysHigh, fun low => ?mpysLow⟩⟩
  case mpyi => rw [wordOf_mapWords _ _ hk, lo16_wordOf _ hk, toInt_mulS, toInt_sext16 s10 (by decide)]
  case mpyh =>
    rw [wordOf_mapWords2 _ _ _ hk, toNat_append_zero, toNat_lo16, toNat_mulU, hi16_wordOf _ hk, lo16_wordOf _ hk]
  case mpysHigh =>
    rw [wordOf_mapWords2 _ _ _ hk, toInt_sext32_hi16, mpysProduct_of_high high, toInt_mulS, hi16_wordOf _ hk,
      hi16_wordOf _ hk]
  case mpysLow =>
    rw [wordOf_mapWords2 _ _ _ hk, toInt_sext32_hi16, mpysProduct_of_low low, toInt_mulS, lo16_wordOf _ hk,
      lo16_wordOf _ hk]

/-! ## Counts (R177, R178) -/

/-- What the leading zeros of a value are among its bits. -/
theorem leadingZeros_msbFirst_spec {n : Nat} (v : BitVec n) : leadingZeros (msbFirst v) ≤ n ∧
    (∀ i, i < leadingZeros (msbFirst v) → v.getLsbD (n - 1 - i) = false) ∧
    (leadingZeros (msbFirst v) < n → v.getLsbD (n - 1 - leadingZeros (msbFirst v)) = true) := by
  obtain ⟨bound, zeros, one⟩ := leadingZeros_spec (msbFirst v)
  rw [length_msbFirst] at bound one
  refine ⟨bound, fun i hi => ?_, fun h => ?_⟩
  · exact Option.some.inj ((getElem?_msbFirst v (by omega)).symm.trans (zeros i hi))
  · exact Option.some.inj ((getElem?_msbFirst v h).symm.trans (one h))

/-- The count of leading zeros fits in a word. -/
theorem toNat_ofNat_leadingZeros (x : Word) :
    (BitVec.ofNat 32 (leadingZeros (msbFirst x))).toNat = leadingZeros (msbFirst x) := by
  obtain ⟨bound, -⟩ := leadingZeros_msbFirst_spec x
  exact toNat_ofNat_of_lt (by omega)

theorem popCount_le {n : Nat} (v : BitVec n) : popCount v ≤ n := by
  simpa only [popCount, length_msbFirst] using List.countP_le_length (p := id) (l := msbFirst v)

/-- The count of one bits fits in a byte. -/
theorem toNat_ofNat_popCount (x : Byte) : (BitVec.ofNat 8 (popCount x)).toNat = popCount x := by
  have bound := popCount_le x
  exact toNat_ofNat_of_lt (by omega)

/-- Settles O29: both counts fit in their element, and count the bits that the statement names. -/
theorem countBits : Obligations.CountBits := by
  intro rt ra s
  refine ⟨computes_of_retire rfl fun k hk => ?clz, computes_of_retire rfl fun k hk => ?cntb⟩
  case clz =>
    rw [wordOf_mapWords _ _ hk, toNat_ofNat_leadingZeros]
    exact leadingZeros_msbFirst_spec (wordOf (s.reg ra) k)
  case cntb => rw [byteOf_mapBytes _ _ hk, toNat_ofNat_popCount, popCount_eq]

/-! ## Bytes (R185 to R187) -/

theorem toNat_avgByte (x y : Byte) : (avgByte x y).toNat = (x.toNat + y.toNat + 1) / 2 := by
  have hx := x.isLt
  have hy := y.isLt
  exact toNat_ofNat_of_lt (by omega)

theorem toNat_absDiffByte (x y : Byte) : (absDiffByte x y).toNat = (y.toNat - x.toNat : Int).natAbs := by
  unfold absDiffByte
  split
  next hle =>
    have le : x.toNat ≤ y.toNat := hle
    rw [BitVec.toNat_sub_of_le hle]
    omega
  next hlt =>
    have le : y.toNat ≤ x.toNat := Nat.le_of_not_le hlt
    rw [BitVec.toNat_sub_of_le le]
    omega

/-- Four bytes sum up inside a halfword. -/
theorem toNat_sumBytes (q : Quad) (k : Nat) : (sumBytes q k).toNat = (byteOf q (4 * k)).toNat +
    (byteOf q (4 * k + 1)).toNat + (byteOf q (4 * k + 2)).toNat + (byteOf q (4 * k + 3)).toNat := by
  have h0 := (byteOf q (4 * k)).isLt
  have h1 := (byteOf q (4 * k + 1)).isLt
  have h2 := (byteOf q (4 * k + 2)).isLt
  have h3 := (byteOf q (4 * k + 3)).isLt
  exact toNat_ofNat_of_lt (by omega)

/-- Settles O30: each byte operation is exact; the sums of `rb` stand in the upper halves of the words. -/
theorem byteArithmetic : Obligations.ByteArithmetic := by
  intro rt ra rb s
  refine ⟨computes_of_retire rfl fun k hk => ?avgb, computes_of_retire rfl fun k hk => ?absdb,
    computes_of_retire rfl fun k hk => ⟨?sumbEven, ?sumbOdd⟩⟩
  case avgb => rw [byteOf_mapBytes2 _ _ _ hk, toNat_avgByte]
  case absdb => rw [byteOf_mapBytes2 _ _ _ hk, toNat_absDiffByte]
  case sumbEven => rw [halfOf_ofWords_even _ hk, hi16_append, toNat_sumBytes]
  case sumbOdd => rw [halfOf_ofWords_odd _ hk, lo16_append, toNat_sumBytes]

/-! ## Extension of the sign (R188 to R190) -/

/-- The low byte of a halfword of a quadword. -/
theorem extractLsb'_halfOf (q : Quad) {k : Nat} (h : k < 8) : (halfOf q k).extractLsb' 0 8 = byteOf q (2 * k + 1) := by
  ext i hi
  have place : 112 - 16 * k + (0 + i) = 120 - 8 * (2 * k + 1) + i := by omega
  have inside : 0 + i < 16 := by omega
  simp only [← BitVec.getLsbD_eq_getElem, BitVec.getLsbD_extractLsb', getLsbD_halfOf, getLsbD_byteOf, place, inside,
    decide_true, Bool.true_and]

/-- Settles O31: the extension of the sign keeps the signed value of the lower half. -/
theorem signExtension : Obligations.SignExtension := by
  intro rt ra s
  refine ⟨computes_of_retire rfl fun k hk => ?xsbh, computes_of_retire rfl fun k hk => ?xshw,
    computes_of_retire rfl fun k hk => ?xswd⟩
  case xsbh => rw [halfOf_mapHalves _ _ hk, toInt_sext16 _ (by decide), extractLsb'_halfOf _ hk]
  case xshw => rw [wordOf_mapWords _ _ hk, toInt_sext32 _ (by decide), lo16_wordOf _ hk]
  case xswd => rw [dwordOf_ofDWords _ hk, BitVec.toInt_signExtend_of_le (by decide)]

end Sys2Proof.Machine
end

section
/-! Logical instructions (R201 to R220): the bits of what each operation makes, then what each instruction leaves in
`rt`. -/

namespace Sys2Proof.Machine

/-! ## Shuffle (R220) -/

/-- Settles O34: each byte is `shuffleByte` of its selector, which `shuffleByte_eq` gives by the selector's number. -/
theorem shuffleBytes : Obligations.ShuffleBytes := by
  intro rt ra rb rc s
  refine computes_of_retire rfl fun k hk => ?_
  rw [shuffle, byteOf_ofBytes _ hk, shuffleByte_eq]

/-! ## Quadwords (R201, R202, R206, R207, R211, R212, R216 to R219) -/

/-- A bit of the complement, inside the width. -/
theorem getLsbD_not_of_lt {n : Nat} (x : BitVec n) {i : Nat} (h : i < n) : (~~~x).getLsbD i = !x.getLsbD i := by
  rw [BitVec.getLsbD_not, decide_eq_true h, Bool.true_and]

/-- Where the control bit is 1 the second source shows, where it is 0 the first (R219). -/
theorem getLsbD_select {n : Nat} (x y c : BitVec n) {i : Nat} (h : i < n) :
    ((x &&& ~~~c) ||| (y &&& c)).getLsbD i = if c.getLsbD i then y.getLsbD i else x.getLsbD i := by
  rw [BitVec.getLsbD_or, BitVec.getLsbD_and, BitVec.getLsbD_and, getLsbD_not_of_lt c h]
  cases c.getLsbD i with
  | false => simp
  | true => simp

/-- A bit of the union of the four words of a quadword (R211). -/
theorem getLsbD_orWords (q : Quad) (i : Nat) :
    (wordOf q 0 ||| wordOf q 1 ||| wordOf q 2 ||| wordOf q 3).getLsbD i = true ↔
      ∃ k, k < 4 ∧ (wordOf q k).getLsbD i = true := by
  simp only [BitVec.getLsbD_or, Bool.or_eq_true, Nat.exists_lt_succ_right, Nat.not_lt_zero, false_and, exists_false,
    false_or]

/-- Settles O32: bit by bit, by what each operation makes of the bits of its operands. -/
theorem logicalOnRegisters : Obligations.LogicalOnRegisters := by
  intro rt ra rb rc s
  refine ⟨computes_of_retire rfl fun i _ => ?and, computes_of_retire rfl fun i hi => ?andc,
    computes_of_retire rfl fun i _ => ?or, computes_of_retire rfl fun i hi => ?orc,
    computes_of_retire rfl fun i _ => ?xor, computes_of_retire rfl fun i hi => ?nand,
    computes_of_retire rfl fun i hi => ?nor, computes_of_retire rfl fun i hi => ?eqv,
    computes_of_retire rfl fun i hi => ?selb,
    computes_of_retire rfl ⟨fun i => ?orxFirst, fun k h0 hk => ?orxOthers⟩⟩
  case and => exact BitVec.getLsbD_and
  case andc => rw [BitVec.getLsbD_and, getLsbD_not_of_lt _ hi]
  case or => exact BitVec.getLsbD_or
  case orc => rw [BitVec.getLsbD_or, getLsbD_not_of_lt _ hi]
  case xor => exact BitVec.getLsbD_xor
  case nand => rw [getLsbD_not_of_lt _ hi, BitVec.getLsbD_and]
  case nor => rw [getLsbD_not_of_lt _ hi, BitVec.getLsbD_or]
  case eqv =>
    rw [getLsbD_not_of_lt _ hi, BitVec.getLsbD_xor]
    exact Bool.not_not _
  case selb => exact getLsbD_select _ _ _ hi
  case orxFirst => rw [wordOf_inWord0_zero, getLsbD_orWords]
  case orxOthers => exact wordOf_inWord0_of_pos _ h0 hk

/-! ## Elements with an immediate (R203 to R205, R208 to R210, R213 to R215) -/

theorem getLsbD_sext16 (s10 : BitVec 10) {i : Nat} (h : i < 16) : (sext16 s10).getLsbD i = s10.getLsbD (min i 9) :=
  getLsbD_signExtend_s10 s10 16 h

theorem getLsbD_sext32 (s10 : BitVec 10) {i : Nat} (h : i < 32) : (sext32 s10).getLsbD i = s10.getLsbD (min i 9) :=
  getLsbD_signExtend_s10 s10 32 h

/-- Settles O33: element by element and bit by bit; the bits of the immediate are those of its eight low bits or of its
extension to the element. -/
theorem logicalWithImmediate : Obligations.LogicalWithImmediate := by
  intro rt ra s10 s
  refine ⟨computes_of_retire rfl fun k i hk hi => ?andbi, computes_of_retire rfl fun k i hk hi => ?andhi,
    computes_of_retire rfl fun k i hk hi => ?andi, computes_of_retire rfl fun k i hk hi => ?orbi,
    computes_of_retire rfl fun k i hk hi => ?orhi, computes_of_retire rfl fun k i hk hi => ?ori,
    computes_of_retire rfl fun k i hk hi => ?xorbi, computes_of_retire rfl fun k i hk hi => ?xorhi,
    computes_of_retire rfl fun k i hk hi => ?xori⟩
  case andbi => rw [byteOf_mapBytes _ _ hk, BitVec.getLsbD_and, getLsbD_low8 s10 hi]
  case andhi => rw [halfOf_mapHalves _ _ hk, BitVec.getLsbD_and, getLsbD_sext16 s10 hi]
  case andi => rw [wordOf_mapWords _ _ hk, BitVec.getLsbD_and, getLsbD_sext32 s10 hi]
  case orbi => rw [byteOf_mapBytes _ _ hk, BitVec.getLsbD_or, getLsbD_low8 s10 hi]
  case orhi => rw [halfOf_mapHalves _ _ hk, BitVec.getLsbD_or, getLsbD_sext16 s10 hi]
  case ori => rw [wordOf_mapWords _ _ hk, BitVec.getLsbD_or, getLsbD_sext32 s10 hi]
  case xorbi => rw [byteOf_mapBytes _ _ hk, BitVec.getLsbD_xor, getLsbD_low8 s10 hi]
  case xorhi => rw [halfOf_mapHalves _ _ hk, BitVec.getLsbD_xor, getLsbD_sext16 s10 hi]
  case xori => rw [wordOf_mapWords _ _ hk, BitVec.getLsbD_xor, getLsbD_sext32 s10 hi]

end Sys2Proof.Machine
end

section
/-! Shifts, rotates, and rotate and mask (R230 to R261): a left shift multiplies, a right shift divides, a rotate moves
bits, each by the count that the laws on the counts give in numbers. -/

namespace Sys2Proof.Machine

/-- Settles O35: a left shift is a product modulo the width, also by the width or more (D27). -/
theorem shiftLeft : Obligations.ShiftLeft := by
  intro rt ra rb u s
  refine ⟨computes_of_retire rfl fun k hk => ?shl, computes_of_retire rfl fun k hk => ?shlh,
    computes_of_retire rfl fun k hk => ?shli, computes_of_retire rfl fun k hk => ?shlhi,
    computes_of_retire rfl ?shlqbi, computes_of_retire rfl ?shlqbii, computes_of_retire rfl ?shlqby,
    computes_of_retire rfl ?shlqbyi, computes_of_retire rfl ?shlqbybi⟩
  case shl =>
    rw [wordOf_mapWords2 _ _ _ hk]
    exact toNat_shiftLeft_eq _ _
  case shlh =>
    rw [halfOf_mapHalves2 _ _ _ hk]
    exact toNat_shiftLeft_eq _ _
  case shli =>
    rw [wordOf_mapWords _ _ hk]
    exact toNat_shiftLeft_eq _ _
  case shlhi =>
    rw [halfOf_mapHalves _ _ hk]
    exact toNat_shiftLeft_eq _ _
  case shlqbi => exact toNat_shiftLeft_eq _ _
  case shlqbii => exact toNat_shiftLeft_eq _ _
  case shlqby => exact toNat_shiftLeft_eq _ _
  case shlqbyi => exact toNat_shiftLeft_eq _ _
  case shlqbybi => rw [toNat_shiftLeft_eq, lowCount_field5, State.reg0]

/-- Settles O36: an element is rotated by its count modulo the width, which moves its bits as the whole count does. -/
theorem rotateElements : Obligations.RotateElements := by
  intro rt ra rb s7 s
  refine ⟨computes_of_retire rfl fun k i hk hi => ?rot, computes_of_retire rfl fun k i hk hi => ?roth,
    computes_of_retire rfl fun k i hk hi => ?roti, computes_of_retire rfl fun k i hk hi => ?rothi⟩
  case rot =>
    rw [wordOf_mapWords2 _ _ _ hk]
    exact getLsbD_rotateLeft_add _ (Nat.mod_mod _ _) hi
  case roth =>
    rw [halfOf_mapHalves2 _ _ _ hk]
    exact getLsbD_rotateLeft_add _ (Nat.mod_mod _ _) hi
  case roti =>
    rw [wordOf_mapWords _ _ hk]
    exact getLsbD_rotateLeft_add _ (Nat.mod_mod _ _) hi
  case rothi =>
    rw [halfOf_mapHalves _ _ hk]
    exact getLsbD_rotateLeft_add _ (Nat.mod_mod _ _) hi

/-- Settles O37: the register is rotated by the very count that the statement names. -/
theorem rotateQuadword : Obligations.RotateQuadword := by
  intro rt ra rb u s7 s
  refine ⟨computes_of_retire rfl fun i hi => ?rotqbi, computes_of_retire rfl fun i hi => ?rotqbii,
    computes_of_retire rfl fun i hi => ?rotqby, computes_of_retire rfl fun i hi => ?rotqbybi,
    computes_of_retire rfl fun i hi => ?rotqbyi⟩
  case rotqbi => exact getLsbD_rotateLeft_add _ rfl hi
  case rotqbii => exact getLsbD_rotateLeft_add _ rfl hi
  case rotqby => exact getLsbD_rotateLeft_add _ rfl hi
  case rotqbybi =>
    rw [lowCount_field4]
    exact getLsbD_rotateLeft_add _ rfl hi
  case rotqbyi => exact getLsbD_rotateLeft_add _ rfl hi

/-- Settles O38: a right shift is a division that rounds down, unsigned or signed, by two to the negated count. -/
theorem rightShift : Obligations.RightShift := by
  intro rt ra rb c s
  obtain ⟨imm6, imm5, imm3⟩ := negCount_imm c
  obtain ⟨-, reg5, reg3⟩ := negCount_word (s.reg0 rb)
  have word6 (k : Nat) : negCount 6 (wordOf (s.reg rb) k) = (64 - (wordOf (s.reg rb) k).toNat % 64) % 64 :=
    (negCount_word _).left
  refine ⟨computes_of_retire rfl fun k hk => ?rotm, computes_of_retire rfl fun k hk => ?rotmi,
    computes_of_retire rfl fun k hk => ?rothm, computes_of_retire rfl fun k hk => ?rothmi,
    computes_of_retire rfl fun k hk => ?rotma, computes_of_retire rfl fun k hk => ?rotmai,
    computes_of_retire rfl fun k hk => ?rotmah, computes_of_retire rfl fun k hk => ?rotmahi,
    computes_of_retire rfl ?rotqmbi, computes_of_retire rfl ?rotqmbii, computes_of_retire rfl ?rotqmby,
    computes_of_retire rfl ?rotqmbyi, computes_of_retire rfl ?rotqmbybi⟩
  case rotm => rw [wordOf_mapWords2 _ _ _ hk, toNat_ushiftRight_eq, word6]
  case rotmi => rw [wordOf_mapWords _ _ hk, toNat_ushiftRight_eq, imm6]
  case rothm => rw [halfOf_mapHalves2 _ _ _ hk, toNat_ushiftRight_eq, negCount_half]
  case rothmi => rw [halfOf_mapHalves _ _ hk, toNat_ushiftRight_eq, imm5]
  case rotma => rw [wordOf_mapWords2 _ _ _ hk, toInt_sshiftRight_eq, word6]
  case rotmai => rw [wordOf_mapWords _ _ hk, toInt_sshiftRight_eq, imm6]
  case rotmah => rw [halfOf_mapHalves2 _ _ _ hk, toInt_sshiftRight_eq, negCount_half]
  case rotmahi => rw [halfOf_mapHalves _ _ hk, toInt_sshiftRight_eq, imm5]
  case rotqmbi => rw [toNat_ushiftRight_eq, reg3, State.reg0]
  case rotqmbii => rw [toNat_ushiftRight_eq, imm3]
  case rotqmby => rw [toNat_ushiftRight_eq, reg5, State.reg0]
  case rotqmbyi => rw [toNat_ushiftRight_eq, imm5]
  case rotqmbybi => rw [toNat_ushiftRight_eq, negByteCount_eq, State.reg0]

end Sys2Proof.Machine
end

section
/-! Compares and halts (R270 to R295, R412): the relation that each one tests, with a register or with an immediate,
then what each instruction leaves in `rt`, or whether it halts. -/

namespace Sys2Proof.Machine

/-! ## Relations with an immediate (R274 to R276, R280 to R282, R286 to R288) -/

theorem beq_low8_iff (x : Byte) (s10 : BitVec 10) : (x == low8 s10) = true ↔ x = s10.setWidth 8 := by
  rw [beq_iff_eq, (low8_eq s10).left]

theorem beq_sext16_iff (x : Half) (s10 : BitVec 10) : (x == sext16 s10) = true ↔ x.toInt = s10.toInt := by
  rw [beq_iff_eq, ← BitVec.toInt_inj, toInt_sext16 s10 (by decide)]

theorem beq_sext32_iff (x : Word) (s10 : BitVec 10) : (x == sext32 s10) = true ↔ x.toInt = s10.toInt := by
  rw [beq_iff_eq, ← BitVec.toInt_inj, toInt_sext32 s10 (by decide)]

theorem gtS_low8_iff (x : Byte) (s10 : BitVec 10) : gtS x (low8 s10) = true ↔ x.toInt > (s10.setWidth 8).toInt := by
  rw [gtS_iff, (low8_eq s10).left]

theorem gtS_sext16_iff (x : Half) (s10 : BitVec 10) : gtS x (sext16 s10) = true ↔ x.toInt > s10.toInt := by
  rw [gtS_iff, toInt_sext16 s10 (by decide)]

theorem gtS_sext32_iff (x : Word) (s10 : BitVec 10) : gtS x (sext32 s10) = true ↔ x.toInt > s10.toInt := by
  rw [gtS_iff, toInt_sext32 s10 (by decide)]

theorem gtU_low8_iff (x : Byte) (s10 : BitVec 10) :
    gtU x (low8 s10) = true ↔ x.toNat > (BitVec.ofInt 8 s10.toInt).toNat := by
  rw [gtU_iff, (low8_eq s10).right]

theorem gtU_sext16_iff (x : Half) (s10 : BitVec 10) :
    gtU x (sext16 s10) = true ↔ x.toNat > (BitVec.ofInt 16 s10.toInt).toNat := by
  rw [gtU_iff, sext16_eq_ofInt s10 (by decide)]

theorem gtU_sext32_iff (x : Word) (s10 : BitVec 10) :
    gtU x (sext32 s10) = true ↔ x.toNat > (BitVec.ofInt 32 s10.toInt).toNat := by
  rw [gtU_iff, sext32_eq_ofInt s10 (by decide)]

/-! ## Masks (R270 a) -/

section

variable {i : Instr} {s : State} {rt : Reg} {f : Nat → Bool} {p : Nat → Prop} [∀ k, Decidable (p k)]

/-- What a compare of bytes does, by the relation `p k` that it tests of byte `k`. -/
theorem computes_of_mask8 (h : exec i s = .next (s.retire rt (ofBytes fun k => mask8 (f k))))
    (hf : ∀ k, f k = true ↔ p k) :
    Computes i s rt fun v => ∀ k, k < 16 → byteOf v k = if p k then 0xFF#8 else 0x00#8 :=
  computes_of_retire h fun k hk => (byteOf_ofBytes _ hk).trans (rep_eq_ite 8 (hf k))

/-- What a compare of halfwords does, by the relation `p k` that it tests of halfword `k`. -/
theorem computes_of_mask16 (h : exec i s = .next (s.retire rt (ofHalves fun k => mask16 (f k))))
    (hf : ∀ k, f k = true ↔ p k) :
    Computes i s rt fun v => ∀ k, k < 8 → halfOf v k = if p k then 0xFFFF#16 else 0x0000#16 :=
  computes_of_retire h fun k hk => (halfOf_ofHalves _ hk).trans (rep_eq_ite 16 (hf k))

/-- What a compare of words does, by the relation `p k` that it tests of word `k`. -/
theorem computes_of_mask32 (h : exec i s = .next (s.retire rt (ofWords fun k => mask32 (f k))))
    (hf : ∀ k, f k = true ↔ p k) :
    Computes i s rt fun v => ∀ k, k < 4 → wordOf v k = if p k then 0xFFFFFFFF#32 else 0x00000000#32 :=
  computes_of_retire h fun k hk => (wordOf_ofWords _ hk).trans (rep_eq_ite 32 (hf k))

end

/-! ## Compares (R271 to R288) -/

/-- Settles O39: each mask stands for the equality of two elements; an element equals the extended immediate when their
signed values are equal. -/
theorem compareEqual : Obligations.CompareEqual := by
  intro rt ra rb s10 s
  refine ⟨computes_of_mask8 rfl fun k => ?ceqb, computes_of_mask16 rfl fun k => ?ceqh,
    computes_of_mask32 rfl fun k => ?ceq, computes_of_mask8 rfl fun k => ?ceqbi,
    computes_of_mask16 rfl fun k => ?ceqhi, computes_of_mask32 rfl fun k => ?ceqi⟩
  case ceqb => exact beq_iff_eq
  case ceqh => exact beq_iff_eq
  case ceq => exact beq_iff_eq
  case ceqbi => exact beq_low8_iff _ s10
  case ceqhi => exact beq_sext16_iff _ s10
  case ceqi => exact beq_sext32_iff _ s10

/-- Settles O40: each mask stands for the order of two signed values; the extended immediate has the value of `s10`, the
byte immediate that of its eight low bits. -/
theorem compareSigned : Obligations.CompareSigned := by
  intro rt ra rb s10 s
  refine ⟨computes_of_mask8 rfl fun k => ?cgtb, computes_of_mask16 rfl fun k => ?cgth,
    computes_of_mask32 rfl fun k => ?cgt, computes_of_mask8 rfl fun k => ?cgtbi,
    computes_of_mask16 rfl fun k => ?cgthi, computes_of_mask32 rfl fun k => ?cgti⟩
  case cgtb => exact gtS_iff _ _
  case cgth => exact gtS_iff _ _
  case cgt => exact gtS_iff _ _
  case cgtbi => exact gtS_low8_iff _ s10
  case cgthi => exact gtS_sext16_iff _ s10
  case cgti => exact gtS_sext32_iff _ s10

/-- Settles O41: each mask stands for the order of two unsigned values; the immediate is first narrowed or extended as a
signed number. -/
theorem compareUnsigned : Obligations.CompareUnsigned := by
  intro rt ra rb s10 s
  refine ⟨computes_of_mask8 rfl fun k => ?clgtb, computes_of_mask16 rfl fun k => ?clgth,
    computes_of_mask32 rfl fun k => ?clgt, computes_of_mask8 rfl fun k => ?clgtbi,
    computes_of_mask16 rfl fun k => ?clgthi, computes_of_mask32 rfl fun k => ?clgti⟩
  case clgtb => exact gtU_iff _ _
  case clgth => exact gtU_iff _ _
  case clgt => exact gtU_iff _ _
  case clgtbi => exact gtU_low8_iff _ s10
  case clgthi => exact gtU_sext16_iff _ s10
  case clgti => exact gtU_sext32_iff _ s10

/-! ## Halts (R289 to R295, R412) -/

/-- Settles O42: each halt ends in `haltIf` of the relation that its compare tests, on word element 0. -/
theorem halts : Obligations.Halts := by
  intro rt ra rb s10 s
  refine ⟨haltsIf_of_haltIf rfl ?heq, haltsIf_of_haltIf rfl ?heqi, haltsIf_of_haltIf rfl ?hgt,
    haltsIf_of_haltIf rfl ?hgti, haltsIf_of_haltIf rfl ?hlgt, haltsIf_of_haltIf rfl ?hlgti⟩
  case heq => exact beq_iff_eq
  case heqi => exact beq_sext32_iff _ s10
  case hgt => exact gtS_iff _ _
  case hgti => exact gtS_sext32_iff _ s10
  case hlgt => exact gtU_iff _ _
  case hlgti => exact gtU_sext32_iff _ s10

end Sys2Proof.Machine
end

section
/-! Branches, returns from an interrupt, hints and the synchronising no-operations (R300 to R338, R393 to R397): the
address that each target form names, the condition that each conditional form tests, then where each instruction goes.
-/

namespace Sys2Proof.Machine

/-! ## The instruction address that a target form names (R27, R300; D6) -/

theorem normPc_eq_pcOf_toNat (a : Word) : normPc a = pcOf a.toNat :=
  normPc_eq_pcOf (by omega)

theorem State.normPc_reg0 (s : State) (ra : Reg) : normPc (s.reg0 ra) = indirectPc s ra :=
  normPc_eq_pcOf_toNat (s.reg0 ra)

theorem State.normPc_eaRel (s : State) (s18 : BitVec 18) : normPc (s.eaRel s18) = relativePc s s18 := by
  apply normPc_eq_pcOf
  have hoff := toNat_off18 s18
  rw [State.eaRel, BitVec.toNat_add]
  omega

/-- The two low bits of a number do not count in the instruction address that it names. -/
theorem pcOf_div_four_mul_four (n : Int) : pcOf (n / 4 * 4) = pcOf n := by
  have same : n / 4 * 4 % Config.lsSize / 4 * 4 = n % Config.lsSize / 4 * 4 := by
    unfold Config.lsSize
    omega
  rw [pcOf, pcOf, same]

/-- The two ignored bits of `s18` are the two that the instruction address drops (R300 c). -/
theorem normPc_off18 (s18 : BitVec 18) : normPc (off18 s18) = pcOf s18.toInt :=
  (normPc_eq_pcOf (toNat_off18 s18)).trans (pcOf_div_four_mul_four s18.toInt)

theorem IsPc.normPc_eq {a : Word} (h : IsPc a) : normPc a = a := by
  obtain ⟨inside, aligned⟩ := h
  apply BitVec.eq_of_toNat_eq
  rw [toNat_normPc, Nat.mod_eq_of_lt inside]
  omega

/-! ## Conditions (R312, R318 to R321) -/

theorem State.zeroWord_iff (s : State) (rc : Reg) : s.zeroWord rc = true ↔ wordOf (s.reg rc) 0 = 0#32 := beq_iff_eq

theorem State.not_zeroWord_iff (s : State) (rc : Reg) : (!s.zeroWord rc) = true ↔ ¬ wordOf (s.reg rc) 0 = 0#32 := by
  rw [Bool.not_eq_true', ← Bool.not_eq_true, s.zeroWord_iff]

theorem State.zeroHalf_iff (s : State) (rc : Reg) : s.zeroHalf rc = true ↔ halfOf (s.reg rc) 1 = 0#16 := beq_iff_eq

theorem State.not_zeroHalf_iff (s : State) (rc : Reg) : (!s.zeroHalf rc) = true ↔ ¬ halfOf (s.reg rc) 1 = 0#16 := by
  rw [Bool.not_eq_true', ← Bool.not_eq_true, s.zeroHalf_iff]

theorem State.externalData_iff (s : State) : s.externalData = true ↔ s.chCount 0#7 ≠ 0#32 := by
  rw [State.externalData, Bool.not_eq_true', beq_eq_false_iff_ne]

/-! ## What each ending does -/

section

variable {i : Instr} {s : State} {rt : Reg} {a pc : Word} {b ie : Bool} {p : Prop}

/-- What an instruction does that only goes on. -/
theorem goes_of_advance (h : exec i s = .next s.advance) : Goes i s (nextPc s) s.ie :=
  goes_of_eq h s.advance_nextPc

/-- What an unconditional branch does, or the return from an interrupt (R300 a). -/
theorem goes_of_goto (h : exec i s = .next (s.goto a)) (ha : normPc a = pc) : Goes i s pc s.ie :=
  goes_of_eq h ha

/-- The same with a suffix that writes IE (R301). -/
theorem goes_of_gotoIe (h : exec i s = .next ((s.goto a).setIe ie)) (ha : normPc a = pc) : Goes i s pc ie :=
  goes_of_eq h ha

/-- What a branch does that sets the link register (R300 f). -/
theorem links_of_callTo (h : exec i s = .next (s.callTo rt a)) (ha : normPc a = pc) : Links i s rt pc s.ie :=
  links_of_eq h ha

/-- The same with a suffix that writes IE (R301). -/
theorem links_of_callToIe (h : exec i s = .next ((s.callTo rt a).setIe ie)) (ha : normPc a = pc) :
    Links i s rt pc ie :=
  links_of_eq h ha

/-- What a conditional branch does that leaves IE (R300 e). -/
theorem goesIf_of_branchIf (h : exec i s = .next (s.branchIf b a)) (hb : b = true ↔ p) (ha : normPc a = pc) :
    GoesIf i s p pc s.ie :=
  goesIf_of_branchIfIe (s.branchIf_eq b a ▸ h) hb ha

/-- What a conditional branch does that sets the link register: it is set in both outcomes, IE only when the branch is
taken (R301, R312). -/
theorem links_of_callIfIe (h : exec i s = .next ((s.setReg rt s.link).branchIfIe b a ie)) (hb : b = true ↔ p)
    (ha : normPc a = pc) : (¬ p → Links i s rt (nextPc s) s.ie) ∧ (p → Links i s rt pc ie) := by
  cases b with
  | true => exact ⟨fun hn => absurd (hb.1 rfl) hn, fun _ => links_of_eq h ha⟩
  | false => exact ⟨fun _ => links_of_eq h s.advance_nextPc, fun hp => absurd (hb.2 hp) Bool.false_ne_true⟩

/-- The same without a suffix, which leaves IE (R312). -/
theorem links_of_callIf (h : exec i s = .next ((s.setReg rt s.link).branchIf b a)) (hb : b = true ↔ p)
    (ha : normPc a = pc) : (¬ p → Links i s rt (nextPc s) s.ie) ∧ (p → Links i s rt pc s.ie) :=
  links_of_callIfIe ((s.setReg rt s.link).branchIf_eq b a ▸ h) hb ha

end

/-! ## Branches (R302 to R333) -/

/-- Settles O43: each branch ends in `goto` or `callTo` at the target that its form names, with IE by the suffix. -/
theorem unconditionalBranches : Obligations.UnconditionalBranches := by
  intro rt ra s18 s
  have relative := s.normPc_eaRel s18
  have absolute := normPc_off18 s18
  have indirect := s.normPc_reg0 ra
  exact ⟨goes_of_goto rfl relative, goes_of_goto rfl absolute, goes_of_goto rfl indirect,
    links_of_callTo rfl relative, links_of_callTo rfl absolute, links_of_callTo rfl indirect,
    goes_of_gotoIe rfl indirect, goes_of_gotoIe rfl indirect,
    links_of_callToIe rfl indirect, links_of_callToIe rfl indirect⟩

/-- Settles O44: each return goes to the address in SRR0; the interrupt entry leaves the old `pc` there, which is an
instruction address and so comes back whole. -/
theorem interruptReturns : Obligations.InterruptReturns := by
  intro ra s
  have saved := normPc_eq_pcOf_toNat s.srr0
  refine ⟨goes_of_goto rfl saved, goes_of_gotoIe rfl saved, goes_of_gotoIe rfl saved, fun hpc hie => ?_⟩
  exact ⟨s.takeInterrupt.returnFromInterrupt.setIe true, rfl, hpc.normPc_eq, hie.symm, fun _ => rfl⟩

/-- Settles O45: the count of channel 0 decides the branch, and the link register is set before it. -/
theorem branchOnExternalData : Obligations.BranchOnExternalData := by
  intro rt ra s
  have nonzero := s.externalData_iff
  have indirect := s.normPc_reg0 ra
  obtain ⟨bisledOn, bisledTaken⟩ := links_of_callIf (i := .bisled rt ra) rfl nonzero indirect
  obtain ⟨bisleddOn, bisleddTaken⟩ := links_of_callIfIe (i := .bisledd rt ra) rfl nonzero indirect
  obtain ⟨bisledeOn, bisledeTaken⟩ := links_of_callIfIe (i := .bislede rt ra) rfl nonzero indirect
  exact ⟨fun h => ⟨bisledOn (not_not_intro h), bisleddOn (not_not_intro h), bisledeOn (not_not_intro h)⟩,
    fun h => ⟨bisledTaken h, bisleddTaken h, bisledeTaken h⟩⟩

/-- Settles O46: each branch ends in `branchIf` of the condition that it tests, at the relative target. -/
theorem conditionalRelativeBranches : Obligations.ConditionalRelativeBranches := by
  intro rc s18 s
  have relative := s.normPc_eaRel s18
  exact ⟨goesIf_of_branchIf rfl (s.zeroWord_iff rc) relative, goesIf_of_branchIf rfl (s.not_zeroWord_iff rc) relative,
    goesIf_of_branchIf rfl (s.zeroHalf_iff rc) relative, goesIf_of_branchIf rfl (s.not_zeroHalf_iff rc) relative⟩

/-- Settles O47: each condition in its three forms, which end in `branchIf` or, with a suffix, in `branchIfIe`. -/
theorem conditionalIndirectBranches : Obligations.ConditionalIndirectBranches := by
  intro rc ra s
  have indirect := s.normPc_reg0 ra
  have zeroWord := s.zeroWord_iff rc
  have nonzeroWord := s.not_zeroWord_iff rc
  have zeroHalf := s.zeroHalf_iff rc
  have nonzeroHalf := s.not_zeroHalf_iff rc
  exact ⟨goesIf_of_branchIf rfl zeroWord indirect, goesIf_of_branchIfIe rfl zeroWord indirect,
    goesIf_of_branchIfIe rfl zeroWord indirect,
    goesIf_of_branchIf rfl nonzeroWord indirect, goesIf_of_branchIfIe rfl nonzeroWord indirect,
    goesIf_of_branchIfIe rfl nonzeroWord indirect,
    goesIf_of_branchIf rfl zeroHalf indirect, goesIf_of_branchIfIe rfl zeroHalf indirect,
    goesIf_of_branchIfIe rfl zeroHalf indirect,
    goesIf_of_branchIf rfl nonzeroHalf indirect, goesIf_of_branchIfIe rfl nonzeroHalf indirect,
    goesIf_of_branchIfIe rfl nonzeroHalf indirect⟩

/-! ## No-operations and synchronisation (R334 to R338, R393 to R397) -/

/-- `sync` and `syncc` end alike (R62, R395, R396). -/
theorem exec_of_sync {i : Instr} (hi : i = .sync ∨ i = .syncc) (s : State) :
    exec i s = .next s.clearDirty.advance := by
  obtain rfl | rfl := hi
  · rfl
  · rfl

/-- Settles O48: the no-operations end in `advance`, `sync` and `syncc` empty Dirty before it. -/
theorem noOperationsAndSync : Obligations.NoOperationsAndSync := by
  intro rt ra s11 s18 s
  refine ⟨goes_of_advance rfl, goes_of_advance rfl, goes_of_advance rfl, goes_of_advance rfl, goes_of_advance rfl,
    goes_of_advance rfl, goes_of_advance rfl, fun i hi => ?_⟩
  exact ⟨_, exec_of_sync hi s, rfl, fun _ => rfl, s.advance_nextPc, fun _ => rfl, ⟨rfl, rfl, rfl, fun _ => rfl⟩,
    ⟨rfl, rfl, rfl, rfl, rfl⟩, rfl, rfl⟩

end Sys2Proof.Machine
end

section
/-! The special registers and the trace: what each ending of an instruction does to the FPSCR (R378, R384), to the
special purpose registers (R399), to NPC and the status code (R391) and to the trace. -/

namespace Sys2Proof.Machine

section

variable {i : Instr} {s t : State}

/-- The FPSCR is written by the floating-point ending and by `fscrwr` only (R378, R384). -/
theorem Effect.fpscr_of_not_writesFpscr (h : Effect i s t) (hf : writesFpscr i = false) : t.fpscr = s.fpscr := by
  have writes_elim (hw : writesFpscr i = true) : t.fpscr = s.fpscr := absurd (hf.symm.trans hw) Bool.false_ne_true
  cases h with
  | fpRetire op inputs rt v ht hw => exact writes_elim hw
  | setFpscr v hw => exact writes_elim hw
  | retire | store | advance | sync | goto | gotoIe | call | callIe | halt | stop | stopd | setSpr | read | readWaits
  | write | writeWaits => rfl

/-- A special purpose register is written by the `mtspr` that names it only (R399). -/
theorem Effect.spr_of_not_mtspr {n : SprNum} (h : Effect i s t) (hn : ∀ ra, i ≠ .mtspr n ra) :
    t.spr n = s.spr n := by
  cases h with
  | setSpr m ra hi =>
    have ne : n ≠ m := fun e => hn ra (e ▸ hi)
    exact s.spr_setSpr_of_ne _ ne
  | retire | fpRetire | setFpscr | store | advance | sync | goto | gotoIe | call | callIe | halt | stop | stopd | read
  | readWaits | write | writeWaits => rfl

/-- NPC and the status code are written by `stop` and `stopd` only (R391, R392). -/
theorem Effect.npc_statusCode_of_not_stop (h : Effect i s t) (hstop : ∀ u14, i ≠ .stop u14)
    (hstopd : ∀ ra rb rc, i ≠ .stopd ra rb rc) : t.npc = s.npc ∧ t.statusCode = s.statusCode := by
  cases h with
  | stop u14 hi => exact absurd hi (hstop u14)
  | stopd ra rb rc hi => exact absurd hi (hstopd ra rb rc)
  | retire | fpRetire | setFpscr | store | advance | sync | goto | gotoIe | call | callIe | halt | setSpr | read
  | readWaits | write | writeWaits => exact ⟨rfl, rfl⟩

/-- The halts by their operands: three compare registers, three compare with an immediate (R290 to R295). -/
theorem IsHalt.operands (h : IsHalt i) :
    (∃ rt ra rb, i = .heq rt ra rb ∨ i = .hgt rt ra rb ∨ i = .hlgt rt ra rb) ∨
      (∃ rt ra s10, i = .heqi rt ra s10 ∨ i = .hgti rt ra s10 ∨ i = .hlgti rt ra s10) := by
  cases h with
  | heq rt ra rb => exact .inl ⟨rt, ra, rb, .inl rfl⟩
  | hgt rt ra rb => exact .inl ⟨rt, ra, rb, .inr (.inl rfl)⟩
  | hlgt rt ra rb => exact .inl ⟨rt, ra, rb, .inr (.inr rfl)⟩
  | heqi rt ra s10 => exact .inr ⟨rt, ra, s10, .inl rfl⟩
  | hgti rt ra s10 => exact .inr ⟨rt, ra, s10, .inr (.inl rfl)⟩
  | hlgti rt ra s10 => exact .inr ⟨rt, ra, s10, .inr (.inr rfl)⟩

end

/-- Settles O15: each of the special registers has its endings, and the endings that append to the trace are those of
the instructions that the statement lists. -/
theorem specialRegisterWriters : Obligations.SpecialRegisterWriters := by
  intro i s t h
  have effect := exec_effect h
  refine ⟨effect.fpscr_of_not_writesFpscr, fun n => effect.spr_of_not_mtspr, effect.npc_statusCode_of_not_stop, ?trace⟩
  cases effect with
  | read rt ch v hi hr => exact .inr (.inl ⟨rt, ch, v, hi, hr, rfl⟩)
  | write ch ra hi hw => exact .inr (.inr (.inl ⟨ch, ra, hi, hw, rfl⟩))
  | stop u14 hi => exact .inr (.inr (.inr (.inl ⟨u14, hi, rfl⟩)))
  | stopd ra rb rc hi => exact .inr (.inr (.inr (.inr (.inl ⟨ra, rb, rc, hi, rfl⟩))))
  | halt hi =>
    obtain registers | immediate := hi.operands
    · exact .inr (.inr (.inr (.inr (.inr (.inl ⟨registers, rfl⟩)))))
    · exact .inr (.inr (.inr (.inr (.inr (.inr ⟨immediate, rfl⟩)))))
  | retire | fpRetire | setFpscr | store | advance | sync | goto | gotoIe | call | callIe | setSpr | readWaits
  | writeWaits => exact .inl rfl

end Sys2Proof.Machine
end

section
/-! Floating point (R350 to R384). In the exact core the machine calculates with integers in units of the format; the
laws here carry each of its operations over to the rational values of the patterns, and the instructions follow element
by element. -/

namespace Sys2Proof.Machine

/-! ## Integers in units

An integer `v` stands for the rational `x` in units of `2 ^ (- u)` when `v = x * 2 ^ u`. -/

section

variable {v w : ℤ} {x y : ℚ} {u : ℕ}

/-- Numbers in the same unit are ordered as what they stand for. -/
theorem units_le_iff (hv : (v : ℚ) = x * 2 ^ u) (hw : (w : ℚ) = y * 2 ^ u) : v ≤ w ↔ x ≤ y := by
  have unit : (0 : ℚ) < 2 ^ u := by positivity
  rw [← Int.cast_le (R := ℚ), hv, hw, mul_le_mul_iff_left₀ unit]

/-- Numbers in the same unit are equal when what they stand for is. -/
theorem units_eq_iff (hv : (v : ℚ) = x * 2 ^ u) (hw : (w : ℚ) = y * 2 ^ u) : v = w ↔ x = y := by
  rw [le_antisymm_iff, le_antisymm_iff, units_le_iff hv hw, units_le_iff hw hv]

/-- An integer that stands for a value other than zero is not zero. -/
theorem ne_zero_of_units (hv : (v : ℚ) = x * 2 ^ u) (hx : x ≠ 0) : v ≠ 0 := by
  rintro rfl
  rw [Int.cast_zero] at hv
  exact mul_ne_zero hx (pow_ne_zero _ two_ne_zero) hv.symm

/-- The magnitude of a number in a unit. -/
theorem units_natAbs (hv : (v : ℚ) = x * 2 ^ u) : ((v.natAbs : ℤ) : ℚ) = |x| * 2 ^ u := by
  have unit : (0 : ℚ) < 2 ^ u := by positivity
  rw [Int.natCast_natAbs, Int.cast_abs, hv, abs_mul, abs_of_pos unit]

/-- A number in a unit, scaled by a power of two. -/
theorem units_scaled (k : ℕ) (hv : (v : ℚ) = x * 2 ^ u) : ((v * 2 ^ k : ℤ) : ℚ) = x * 2 ^ k * 2 ^ u := by
  push_cast
  rw [hv]
  ring

/-- A product is in the unit squared. -/
theorem units_mul (hv : (v : ℚ) = x * 2 ^ u) (hw : (w : ℚ) = y * 2 ^ u) :
    ((v * w : ℤ) : ℚ) = x * y * 2 ^ (2 * u) := by
  rw [Int.cast_mul, hv, hw]
  ring

end

/-! ## Exact results (R350 d) -/

/-- A core value that is zero is +0. -/
theorem isCore_zero {f : FpFormat} {bits : ℕ} (h : IsCore f bits 0) : bits = 0 := by
  obtain ⟨rfl, -⟩ | ⟨sign, e, fraction, -, -, -, -, -, hx⟩ := h
  · rfl
  · have significand : (0 : ℚ) < 1 + fraction / 2 ^ f.frac := by positivity
    have power : (2 : ℚ) ^ ((e : ℤ) - f.bias) ≠ 0 := zpow_ne_zero _ two_ne_zero
    have signFactor : (-1 : ℚ) ^ sign ≠ 0 := pow_ne_zero _ (neg_ne_zero.2 one_ne_zero)
    exact absurd hx.symm (mul_ne_zero (mul_ne_zero signFactor power) significand.ne')

section

variable {f g : FpFormat} {a b c p r : ℕ} {x y z q : ℚ}

/-- An integer that stands for a core value other than zero has its pattern. -/
theorem corePattern_of_units {u : ℕ} {v : ℤ} (hr : IsCore f r q) (hv : (v : ℚ) = q * 2 ^ u) (hq : q ≠ 0) :
    corePattern f u v = some r :=
  corePattern_of_isCore hr (eq_div_of_mul_eq (pow_ne_zero _ two_ne_zero) hv.symm) (ne_zero_of_units hv hq)

/-- The exact sum or difference (R352, R353). -/
theorem exactAdd_of_isCore (hu : 1 ≤ f.bias + f.frac) {negate : Bool} (ha : IsCore f a x) (hb : IsCore f b y)
    (hr : IsCore f r q) (hq : q = if negate then x - y else x + y) (h0 : q ≠ 0) : exactAdd f negate a b = some r := by
  obtain ⟨v, av, hv⟩ := coreValue_of_isCore ha hu
  obtain ⟨w, bw, hw⟩ := coreValue_of_isCore hb hu
  have sum : ((if negate then v - w else v + w : ℤ) : ℚ) = q * 2 ^ f.unit := by
    rw [hq]
    cases negate with
    | false => simp [hv, hw, add_mul]
    | true => simp [hv, hw, sub_mul]
  have notZeros : ¬ (a = 0 ∧ b = 0 ∧ (!negate) = true) := by
    rintro ⟨rfl, rfl, hn⟩
    obtain rfl : negate = false := by simpa using hn
    cases Option.some.inj av
    cases Option.some.inj bw
    exact ne_zero_of_units sum h0 rfl
  rw [exactAdd, av, bw]
  exact (if_neg notZeros).trans (corePattern_of_units hr sum h0)

/-- The exact product (R354). -/
theorem exactMul_of_isCore (hu : 1 ≤ f.bias + f.frac) (ha : IsCore f a x) (hb : IsCore f b y)
    (hr : IsCore f r (x * y)) (h0 : x * y ≠ 0) : exactMul f a b = some r := by
  obtain ⟨v, av, hv⟩ := coreValue_of_isCore ha hu
  obtain ⟨w, bw, hw⟩ := coreValue_of_isCore hb hu
  have product := units_mul hv hw
  have nonzero : v * w ≠ 0 := ne_zero_of_units product h0
  have notZero : ¬ (v = 0 ∧ 0 ≤ w ∨ w = 0 ∧ 0 ≤ v) := by
    rintro (⟨hv0, -⟩ | ⟨hw0, -⟩)
    · exact left_ne_zero_of_mul nonzero hv0
    · exact right_ne_zero_of_mul nonzero hw0
  rw [exactMul, av, bw]
  exact (if_neg notZero).trans (corePattern_of_units hr product h0)

/-- The exact sum of a product and an addend, with their signs (R355 to R357). -/
theorem exactMadd_of_isCore (hu : 1 ≤ f.bias + f.frac) {sp st : ℤ} (ha : IsCore f a x) (hb : IsCore f b y)
    (hc : IsCore f c z) (hp : IsCore f p (x * y)) (hr : IsCore f r q) (hq : q = sp * (x * y) + st * z)
    (hp0 : x * y ≠ 0) (h0 : q ≠ 0) : exactMadd f sp st a b c = some r := by
  obtain ⟨v, av, hv⟩ := coreValue_of_isCore ha hu
  obtain ⟨w, bw, hw⟩ := coreValue_of_isCore hb hu
  obtain ⟨n, cn, hn⟩ := coreValue_of_isCore hc hu
  have product := units_mul hv hw
  have sum : ((sp * (v * w) + st * (n * 2 ^ f.unit) : ℤ) : ℚ) = q * 2 ^ (2 * f.unit) := by
    push_cast
    rw [hq, hv, hw, hn]
    ring
  simp only [exactMadd, av, bw, cn, corePattern_of_units hp product hp0, corePattern_of_units hr sum h0]

/-- The same value in another format (R368, R369). -/
theorem exactConvert_of_isCore (hu : 1 ≤ f.bias + f.frac) (ha : IsCore f a x) (hr : IsCore g r x) (h0 : x ≠ 0) :
    exactConvert f g a = some r := by
  obtain ⟨v, av, hv⟩ := coreValue_of_isCore ha hu
  rw [exactConvert, av]
  exact (if_neg (ne_zero_of_units hv h0)).trans (corePattern_of_units hr hv h0)

end

/-- An exact result that is the number of a pattern is that pattern. -/
theorem coreOr_of_eq_some {n : ℕ} {result : Option ℕ} {r : BitVec n} (h : result = some r.toNat) (unfixed : BitVec n) :
    coreOr result unfixed = r := by
  rw [h, coreOr, BitVec.ofNat_toNat, BitVec.setWidth_eq]

theorem one_le_single : 1 ≤ single.bias + single.frac := by decide

theorem one_le_double : 1 ≤ double.bias + double.frac := by decide

/-! ## Instructions that act element by element -/

section

variable {i : Instr} {s : State} {op : Config.FpOp} {inputs : List Quad} {rt : Reg} {qa qb qc : Quad}

theorem fpComputes_of_mapWords {f : Word → Word} (h : exec i s = .next (s.fpRetire op inputs rt (mapWords f qa))) :
    FpComputes i s op inputs rt fun v => ∀ k, k < 4 → wordOf v k = f (wordOf qa k) :=
  fpComputes_of_fpRetire h fun _ hk => wordOf_mapWords f qa hk

theorem fpComputes_of_mapWords2 {f : Word → Word → Word}
    (h : exec i s = .next (s.fpRetire op inputs rt (mapWords2 f qa qb))) :
    FpComputes i s op inputs rt fun v => ∀ k, k < 4 → wordOf v k = f (wordOf qa k) (wordOf qb k) :=
  fpComputes_of_fpRetire h fun _ hk => wordOf_mapWords2 f qa qb hk

theorem fpComputes_of_mapWords3 {f : Word → Word → Word → Word}
    (h : exec i s = .next (s.fpRetire op inputs rt (mapWords3 f qa qb qc))) :
    FpComputes i s op inputs rt fun v => ∀ k, k < 4 → wordOf v k = f (wordOf qa k) (wordOf qb k) (wordOf qc k) :=
  fpComputes_of_fpRetire h fun _ hk => wordOf_mapWords3 f qa qb qc hk

theorem fpComputes_of_mapDWords2 {f : DWord → DWord → DWord}
    (h : exec i s = .next (s.fpRetire op inputs rt (mapDWords2 f qa qb))) :
    FpComputes i s op inputs rt fun v => ∀ k, k < 2 → dwordOf v k = f (dwordOf qa k) (dwordOf qb k) :=
  fpComputes_of_fpRetire h fun _ hk => dwordOf_mapDWords2 f qa qb hk

theorem fpComputes_of_mapDWords3 {f : DWord → DWord → DWord → DWord}
    (h : exec i s = .next (s.fpRetire op inputs rt (mapDWords3 f qa qb qc))) :
    FpComputes i s op inputs rt fun v => ∀ k, k < 2 → dwordOf v k = f (dwordOf qa k) (dwordOf qb k) (dwordOf qc k) :=
  fpComputes_of_fpRetire h fun _ hk => dwordOf_mapDWords3 f qa qb qc hk

end

/-! ## Arithmetic (R352 to R364) -/

/-- Settles O49: the machine's own functions of two words, exact by `exactAdd` and `exactMul`. -/
theorem singleAddSubtractMultiply : Obligations.SingleAddSubtractMultiply := by
  refine ⟨fun a b f => spAdd f a b, fun a b f => spSub f a b, fun a b f => spMul f a b,
    fun a b r f x y ha hb hr h0 => ?add, fun a b r f x y ha hb hr h0 => ?sub, fun a b r f x y ha hb hr h0 => ?mul,
    fun rt ra rb s => ?fa, fun rt ra rb s => ?fs, fun rt ra rb s => ?fm⟩
  case add => exact coreOr_of_eq_some (exactAdd_of_isCore one_le_single ha hb hr rfl h0) _
  case sub => exact coreOr_of_eq_some (exactAdd_of_isCore one_le_single ha hb hr rfl h0) _
  case mul => exact coreOr_of_eq_some (exactMul_of_isCore one_le_single ha hb hr h0) _
  case fa | fs | fm => exact fpComputes_of_mapWords2 rfl

/-- Settles O50: the machine's own functions of three words, exact by `exactMadd` with the signs of each form. -/
theorem singleMultiplyAdd : Obligations.SingleMultiplyAdd := by
  refine ⟨fun a b c f => spMadd f a b c, fun a b c f => spMsub f a b c, fun a b c f => spNmsub f a b c,
    fun a b c r p f x y z ha hb hc hp hr hp0 h0 => ?madd, fun a b c r p f x y z ha hb hc hp hr hp0 h0 => ?msub,
    fun a b c r p f x y z ha hb hc hp hr hp0 h0 => ?nmsub,
    fun rt ra rb rc s => ?fma, fun rt ra rb rc s => ?fms, fun rt ra rb rc s => ?fnms⟩
  case madd | msub | nmsub =>
    exact coreOr_of_eq_some (exactMadd_of_isCore one_le_single ha hb hc hp hr (by push_cast; ring) hp0 h0) _
  case fma | fms | fnms => exact fpComputes_of_mapWords3 rfl

/-- Settles O51: the same functions in double precision, the old `rt` being the addend. -/
theorem doubleArithmetic : Obligations.DoubleArithmetic := by
  refine ⟨fun a b f => dpAdd f a b, fun a b f => dpSub f a b, fun a b f => dpMul f a b,
    fun a b t f => dpMadd f a b t, fun a b t f => dpMsub f a b t, fun a b t f => dpNmsub f a b t,
    fun a b t f => dpNmadd f a b t,
    fun a b r f x y ha hb hr h0 => ?add, fun a b r f x y ha hb hr h0 => ?sub, fun a b r f x y ha hb hr h0 => ?mul,
    fun a b c r p f x y z ha hb hc hp hr hp0 h0 => ?madd, fun a b c r p f x y z ha hb hc hp hr hp0 h0 => ?msub,
    fun a b c r p f x y z ha hb hc hp hr hp0 h0 => ?nmsub, fun a b c r p f x y z ha hb hc hp hr hp0 h0 => ?nmadd,
    fun rt ra rb s => ?dfa, fun rt ra rb s => ?dfs, fun rt ra rb s => ?dfm, fun rt ra rb s => ?dfma,
    fun rt ra rb s => ?dfms, fun rt ra rb s => ?dfnms, fun rt ra rb s => ?dfnma⟩
  case add => exact coreOr_of_eq_some (exactAdd_of_isCore one_le_double ha hb hr rfl h0) _
  case sub => exact coreOr_of_eq_some (exactAdd_of_isCore one_le_double ha hb hr rfl h0) _
  case mul => exact coreOr_of_eq_some (exactMul_of_isCore one_le_double ha hb hr h0) _
  case madd | msub | nmsub | nmadd =>
    exact coreOr_of_eq_some (exactMadd_of_isCore one_le_double ha hb hc hp hr (by push_cast; ring) hp0 h0) _
  case dfa | dfs | dfm => exact fpComputes_of_mapDWords2 rfl
  case dfma | dfms | dfnms | dfnma => exact fpComputes_of_mapDWords3 rfl

/-! ## Estimates and changes of precision (R365 to R369) -/

/-- The upper word of a doubleword of a quadword. -/
theorem wordOf_even (q : Quad) {k : ℕ} (h : k < 2) : wordOf q (2 * k) = (dwordOf q k).extractLsb' 32 32 := by
  ext i hi
  have place : 96 - 32 * (2 * k) + i = 64 - 64 * k + (32 + i) := by omega
  have inside : 32 + i < 64 := by omega
  simp only [← BitVec.getLsbD_eq_getElem, BitVec.getLsbD_extractLsb', getLsbD_wordOf, getLsbD_dwordOf, place, inside,
    decide_true, Bool.true_and]

/-- The lower word of a doubleword of a quadword. -/
theorem wordOf_odd (q : Quad) {k : ℕ} (h : k < 2) : wordOf q (2 * k + 1) = (dwordOf q k).extractLsb' 0 32 := by
  ext i hi
  have place : 96 - 32 * (2 * k + 1) + i = 64 - 64 * k + (0 + i) := by omega
  have inside : 0 + i < 64 := by omega
  simp only [← BitVec.getLsbD_eq_getElem, BitVec.getLsbD_extractLsb', getLsbD_wordOf, getLsbD_dwordOf, place, inside,
    decide_true, Bool.true_and]

/-- Words over zeros, as `frds` leaves them (R369). -/
theorem wordOf_ofDWords_append_zero (f : ℕ → Word) {k : ℕ} (h : k < 2) :
    wordOf (ofDWords fun k => f k ++ 0#32) (2 * k) = f k ∧
      wordOf (ofDWords fun k => f k ++ 0#32) (2 * k + 1) = 0#32 := by
  rw [wordOf_even _ h, wordOf_odd _ h, dwordOf_ofDWords _ h]
  exact ⟨BitVec.extractLsb'_append_eq_left, BitVec.extractLsb'_append_eq_right⟩

/-- Settles O52: the estimates are functions of the words alone; the changes of precision are exact by
`exactConvert`. -/
theorem estimatesAndPrecision : Obligations.EstimatesAndPrecision := by
  refine ⟨spRecipEst, spRsqrtEst, spInterp, fun a f => spToDp f a, fun a f => dpToSp f a,
    fun a r f x ha hr h0 => ?toDp, fun a r f x ha hr h0 => ?toSp, fun rt ra rb s =>
    ⟨fpComputes_of_mapWords rfl, fpComputes_of_mapWords rfl, fpComputes_of_mapWords2 rfl,
      fpComputes_of_fpRetire rfl fun k hk => ?fesd, fpComputes_of_fpRetire rfl fun k hk => ?frds⟩⟩
  case toDp => exact coreOr_of_eq_some (exactConvert_of_isCore one_le_single ha hr h0) _
  case toSp => exact coreOr_of_eq_some (exactConvert_of_isCore one_le_double ha hr h0) _
  case fesd => exact dwordOf_ofDWords _ hk
  case frds => exact wordOf_ofDWords_append_zero (fun k => dpToSp s.fpscr (dwordOf (s.reg ra) k)) hk

/-! ## Integers and floating point (R370 to R373) -/

/-- The word of an integer that fits in one without a sign. -/
theorem toNat_ofInt_of_mem {i : ℤ} (least : 0 ≤ i) (greatest : i < 2 ^ 32) : ((BitVec.ofInt 32 i).toNat : ℤ) = i := by
  rw [BitVec.toNat_ofInt]
  omega

theorem scaleOk_of_le {scale : BitVec 8} (hs : scale.toNat ≤ 127) : scaleOk scale = true := decide_eq_true hs

/-- A core single-precision value in units of the format. -/
theorem spValue_of_coreSp {a : Word} {x : ℚ} (h : CoreSp a x) :
    ∃ n : ℤ, spValue a = some n ∧ (n : ℚ) = x * 2 ^ single.unit :=
  coreValue_of_isCore h one_le_single

section

variable {a : Word} {n : ℤ} {scale : BitVec 8} {x : ℚ}

/-- What `cflts` calculates in the exact core (R370). -/
theorem spToSi_of_spValue (ha : spValue a = some n) (hs : scale.toNat ≤ 127) : spToSi scale a =
    if 2 ^ 31 * 2 ^ single.unit ≤ n * 2 ^ scale.toNat then 0x7FFFFFFF#32
    else if n * 2 ^ scale.toNat ≤ -(2 ^ 31 * 2 ^ single.unit) then 0x80000000#32
    else BitVec.ofInt 32 (toInteger (n * 2 ^ scale.toNat) single.unit (Config.spToSiUp a scale)) := by
  simp only [spToSi, ha, scaleOk_of_le hs, if_true]

/-- What `cfltu` calculates in the exact core (R371). -/
theorem spToUi_of_spValue (ha : spValue a = some n) (hs : scale.toNat ≤ 127) : spToUi scale a =
    if 2 ^ 32 * 2 ^ single.unit ≤ n * 2 ^ scale.toNat then 0xFFFFFFFF#32
    else if n * 2 ^ scale.toNat ≤ 0 then 0x00000000#32
    else BitVec.ofInt 32 (toInteger (n * 2 ^ scale.toNat) single.unit (Config.spToUiUp a scale)) := by
  simp only [spToUi, ha, scaleOk_of_le hs, if_true]

/-- A scaled core value, as an integer, stays inside a range wider than its 24 significant bits. -/
theorem toInteger_scaled_mem (ha : spValue a = some n) (up : Bool) {k u : ℕ} {lo hi : ℤ}
    (hlo : lo * 2 ^ u < n * 2 ^ k) (hhi : n * 2 ^ k < hi * 2 ^ u) (wide : 2 ^ 25 ≤ hi) :
    lo ≤ toInteger (n * 2 ^ k) u up ∧ toInteger (n * 2 ^ k) u up < hi := by
  obtain ⟨m, j, hm, hn⟩ := natAbs_spValue ha
  have bits : (n * 2 ^ k).natAbs = m * 2 ^ (j + k) := by
    rw [Int.natAbs_mul, Int.natAbs_pow, hn, pow_add, mul_assoc]
    rfl
  exact toInteger_mem up hm bits hlo hhi wide

/-- A scaled value, as an integer, is less than 1 away (R370, R371). -/
theorem toInteger_scaled_near {k u : ℕ} (hn : ((n * 2 ^ k : ℤ) : ℚ) = x * 2 ^ k * 2 ^ u) (up : Bool) :
    |((toInteger (n * 2 ^ k) u up : ℤ) : ℚ) - x * 2 ^ k| < 1 := by
  have near := toInteger_near (n := n * 2 ^ k) (u := u) up
  rwa [hn, mul_div_cancel_right₀ _ (pow_ne_zero u two_ne_zero)] at near

/-- The signed conversion of a core value (R370). -/
theorem spToSi_of_coreSp (h : CoreSp a x) (hs : scale.toNat ≤ 127) :
    if 2 ^ 31 ≤ x * 2 ^ scale.toNat then spToSi scale a = 0x7FFFFFFF#32
    else if x * 2 ^ scale.toNat ≤ -2 ^ 31 then spToSi scale a = 0x80000000#32
    else |((spToSi scale a).toInt : ℚ) - x * 2 ^ scale.toNat| < 1 := by
  obtain ⟨n, ha, hn⟩ := spValue_of_coreSp h
  have scaled := units_scaled scale.toNat hn
  have upper : (2 ^ 31 * 2 ^ single.unit ≤ n * 2 ^ scale.toNat) ↔ 2 ^ 31 ≤ x * 2 ^ scale.toNat :=
    units_le_iff (by push_cast; rfl) scaled
  have lower : (n * 2 ^ scale.toNat ≤ -(2 ^ 31 * 2 ^ single.unit)) ↔ x * 2 ^ scale.toNat ≤ -2 ^ 31 :=
    units_le_iff scaled (by push_cast; ring)
  simp only [spToSi_of_spValue ha hs, upper, lower]
  split
  · rfl
  next below =>
    split
    · rfl
    next above =>
      rw [← upper, not_le] at below
      rw [← lower, not_le, ← neg_mul] at above
      obtain ⟨least, greatest⟩ := toInteger_scaled_mem ha (Config.spToSiUp a scale) above below (by decide)
      rw [BitVec.toInt_ofInt_eq_self (by decide) least greatest]
      exact toInteger_scaled_near scaled _

/-- The unsigned conversion of a core value (R371). -/
theorem spToUi_of_coreSp (h : CoreSp a x) (hs : scale.toNat ≤ 127) :
    if 2 ^ 32 ≤ x * 2 ^ scale.toNat then spToUi scale a = 0xFFFFFFFF#32
    else if x * 2 ^ scale.toNat ≤ 0 then spToUi scale a = 0x00000000#32
    else |((spToUi scale a).toNat : ℚ) - x * 2 ^ scale.toNat| < 1 := by
  obtain ⟨n, ha, hn⟩ := spValue_of_coreSp h
  have scaled := units_scaled scale.toNat hn
  have upper : (2 ^ 32 * 2 ^ single.unit ≤ n * 2 ^ scale.toNat) ↔ 2 ^ 32 ≤ x * 2 ^ scale.toNat :=
    units_le_iff (by push_cast; rfl) scaled
  have lower : (n * 2 ^ scale.toNat ≤ 0) ↔ x * 2 ^ scale.toNat ≤ 0 :=
    units_le_iff scaled (by rw [Int.cast_zero, zero_mul])
  simp only [spToUi_of_spValue ha hs, upper, lower]
  split
  · rfl
  next below =>
    split
    · rfl
    next above =>
      rw [← upper, not_le] at below
      rw [← lower, not_le, ← zero_mul (2 ^ single.unit)] at above
      obtain ⟨least, greatest⟩ := toInteger_scaled_mem ha (Config.spToUiUp a scale) above below (by decide)
      rw [← Int.cast_natCast, toNat_ofInt_of_mem least greatest]
      exact toInteger_scaled_near scaled _

end

/-- Settles O53: each word by the conversion of its core value, which the scale multiplies (D25). -/
theorem floatToInteger : Obligations.FloatToInteger := by
  intro rt ra scale s hs
  refine ⟨fpComputes_of_fpRetire rfl fun k x hk hx => ?cflts, fpComputes_of_fpRetire rfl fun k x hk hx => ?cfltu⟩
  case cflts =>
    rw [wordOf_mapWords _ _ hk]
    exact spToSi_of_coreSp hx hs
  case cfltu =>
    rw [wordOf_mapWords _ _ hk]
    exact spToUi_of_coreSp hx hs

/-- The pattern of an integer divided by a power of two (R372, R373). -/
theorem exactFromInt_of_isCore {scale : BitVec 8} {i : ℤ} {r : ℕ} (hs : scale.toNat ≤ 127)
    (hr : IsCore single r (i / 2 ^ scale.toNat)) : exactFromInt scale i = some r := by
  rw [exactFromInt, if_pos (scaleOk_of_le hs)]
  split
  next zero =>
    rw [zero, Int.cast_zero, zero_div] at hr
    rw [isCore_zero hr]
  next nonzero => exact corePattern_of_isCore hr rfl nonzero

/-- Settles O54: both conversions are exact by `exactFromInt`, which the scale divides (D25). -/
theorem integerToFloat : Obligations.IntegerToFloat := by
  intro rt ra scale s hs
  refine ⟨fpComputes_of_fpRetire rfl fun k r hk hr => ?csflt, fpComputes_of_fpRetire rfl fun k r hk hr => ?cuflt⟩
  case csflt =>
    rw [wordOf_mapWords _ _ hk]
    exact coreOr_of_eq_some (exactFromInt_of_isCore hs hr) _
  case cuflt =>
    rw [wordOf_mapWords _ _ hk]
    rw [← Int.cast_natCast] at hr
    exact coreOr_of_eq_some (exactFromInt_of_isCore hs hr) _

/-! ## Compares (R374 to R377) -/

section

variable {a b : Word} {x y : ℚ} (hx : CoreSp a x) (hy : CoreSp b y)

include hx hy

/-- A compare of core values is one of the integers that stand for them. -/
theorem compareCore_of_coreSp (rel : ℤ → ℤ → Bool) (unfixed : Bool) : ∃ v w : ℤ,
    compareCore rel a b unfixed = rel v w ∧ (v : ℚ) = x * 2 ^ single.unit ∧ (w : ℚ) = y * 2 ^ single.unit := by
  obtain ⟨v, av, hv⟩ := spValue_of_coreSp hx
  obtain ⟨w, bw, hw⟩ := spValue_of_coreSp hy
  exact ⟨v, w, by rw [compareCore, av, bw], hv, hw⟩

theorem spEq_iff : spEq a b = true ↔ x = y := by
  obtain ⟨v, w, compared, hv, hw⟩ := compareCore_of_coreSp hx hy (fun x y => x == y) (Config.spEq a b)
  rw [spEq, compared, beq_iff_eq]
  exact units_eq_iff hv hw

theorem spMeq_iff : spMeq a b = true ↔ |x| = |y| := by
  obtain ⟨v, w, compared, hv, hw⟩ :=
    compareCore_of_coreSp hx hy (fun x y => x.natAbs == y.natAbs) (Config.spMeq a b)
  rw [spMeq, compared, beq_iff_eq, ← Int.natCast_inj]
  exact units_eq_iff (units_natAbs hv) (units_natAbs hw)

theorem spGt_iff : spGt a b = true ↔ x > y := by
  obtain ⟨v, w, compared, hv, hw⟩ := compareCore_of_coreSp hx hy (fun x y => decide (x > y)) (Config.spGt a b)
  rw [spGt, compared, decide_eq_true_iff, gt_iff_lt, gt_iff_lt, ← not_le, ← not_le, units_le_iff hv hw]

theorem spMgt_iff : spMgt a b = true ↔ |x| > |y| := by
  obtain ⟨v, w, compared, hv, hw⟩ :=
    compareCore_of_coreSp hx hy (fun x y => decide (x.natAbs > y.natAbs)) (Config.spMgt a b)
  rw [spMgt, compared, decide_eq_true_iff, gt_iff_lt, gt_iff_lt, ← not_le, ← not_le, ← Int.ofNat_le,
    units_le_iff (units_natAbs hv) (units_natAbs hw)]

end

theorem mask32_eq_or (b : Bool) : mask32 b = 0xFFFFFFFF#32 ∨ mask32 b = 0x00000000#32 := by
  cases b
  · exact .inr rfl
  · exact .inl rfl

theorem mask32_eq_ones_iff (b : Bool) : mask32 b = 0xFFFFFFFF#32 ↔ b = true := by
  cases b <;> decide

/-- What a compare does, by the relation `p` that `rel` tests of core values (R374 to R377). -/
theorem fpComputes_of_compare {i : Instr} {s : State} {op : Config.FpOp} {inputs : List Quad} {rt : Reg} {qa qb : Quad}
    {rel : Word → Word → Bool} {p : ℚ → ℚ → Prop}
    (h : exec i s = .next (s.fpRetire op inputs rt (mapWords2 (fun x y => mask32 (rel x y)) qa qb)))
    (hrel : ∀ {a b x y}, CoreSp a x → CoreSp b y → (rel a b = true ↔ p x y)) :
    FpComputes i s op inputs rt fun v => ∀ k, k < 4 → (wordOf v k = 0xFFFFFFFF#32 ∨ wordOf v k = 0x00000000#32) ∧
      ∀ x y, CoreSp (wordOf qa k) x → CoreSp (wordOf qb k) y → (wordOf v k = 0xFFFFFFFF#32 ↔ p x y) := by
  refine fpComputes_of_fpRetire h fun k hk => ?_
  rw [wordOf_mapWords2 _ _ _ hk]
  exact ⟨mask32_eq_or _, fun x y hx hy => (mask32_eq_ones_iff _).trans (hrel hx hy)⟩

/-- Settles O55: each compare tests its relation on the core values. -/
theorem floatCompare : Obligations.FloatCompare :=
  fun _ _ _ _ => ⟨fpComputes_of_compare rfl spEq_iff, fpComputes_of_compare rfl spMeq_iff,
    fpComputes_of_compare rfl spGt_iff, fpComputes_of_compare rfl spMgt_iff⟩

/-! ## Moves from and to the FPSCR (R383, R384) -/

/-- Settles O56: `fscrrd` ends in `retire` with the FPSCR, `fscrwr` in `setFpscr` and `advance`. -/
theorem fpscrMoves : Obligations.FpscrMoves := by
  intro rt ra rc s
  refine ⟨computes_of_retire rfl rfl, (s.setFpscr (s.reg ra)).advance, rfl, fun i => ?masked, s.advance_nextPc, rfl,
    fun _ => rfl, .of_eq rfl rfl rfl rfl rfl rfl rfl rfl rfl rfl rfl⟩
  case masked => rw [State.advance_fpscr, State.setFpscr_fpscr, BitVec.getLsbD_and]

end Sys2Proof.Machine
end

section
/-! The step as a whole (60_exceptions.md): the interrupt entry (R415, R416), the faults of the fetch in their order
(R413), which endings leave SRR0 and IE, that every instruction answers (R410), and the words that the spec prints. -/

namespace Sys2Proof.Machine

/-! ## Interrupt entry (R415, R416) -/

theorem State.interrupted_iff (s : State) :
    s.interrupted = true ↔ s.ie = true ∧ s.stalled = false ∧ s.irq = true := by
  simp only [State.interrupted, Bool.and_eq_true, Bool.not_eq_true', and_assoc]

theorem step_of_interrupted {s : State} (hr : s.run = .running) (hi : s.interrupted = true) :
    step s = .next s.takeInterrupt.tick := by
  rw [step, hr]
  exact if_pos hi

/-- Settles O7: the step is `takeInterrupt`, which writes SRR0, IE and `pc` only, and `tick`. -/
theorem interruptEntry : Obligations.InterruptEntry := by
  intro s hr hie hstalled hirq
  have entry := step_of_interrupted hr (s.interrupted_iff.2 ⟨hie, hstalled, hirq⟩)
  exact ⟨_, entry, rfl, rfl, rfl, fun _ => rfl, ⟨fun _ => rfl, rfl⟩, rfl, fun _ => rfl, rfl, rfl, rfl, rfl, rfl, rfl,
    rfl⟩

/-! ## The faults of a fetch, in the order of R413 -/

/-- One undefined byte leaves nothing to read (R64). -/
theorem Memory.readBytes_eq_none {m : Memory} {a n k : Nat} (hk : k < n) (h : Memory.read m (a + k) = none) :
    Memory.readBytes m a n = none := by
  induction n generalizing a k with
  | zero => omega
  | succ n ih =>
    cases k with
    | zero =>
      rw [Nat.add_zero] at h
      rw [Memory.readBytes, h]
    | succ k =>
      have later : Memory.readBytes m (a + 1) n = none :=
        ih (Nat.lt_of_succ_lt_succ hk) (by rwa [Nat.add_assoc, Nat.add_comm 1 k])
      rw [Memory.readBytes, later]
      cases Memory.read m a <;> rfl

/-- A quadword stored to since the last `sync` is not fetched from (R62). -/
theorem State.fetch_of_dirty {s : State} (hd : lsa s.pc ∈ s.dirty) :
    s.fetch = .error (.selfModifyingFetch s.pc) := by
  have bytes : s.fetchBytes = .error (.selfModifyingFetch s.pc) := by
    rw [State.fetchBytes, if_pos (by rwa [List.contains_iff_mem])]
  rw [State.fetch, bytes]

theorem State.fetch_of_undefined {s : State} (hd : lsa s.pc ∉ s.dirty)
    (hb : Memory.readBytes s.ls s.pc.toNat 4 = none) : s.fetch = .error (.noInstruction s.pc) := by
  have bytes : s.fetchBytes = .error (.noInstruction s.pc) := by
    rw [State.fetchBytes, if_neg (by rwa [List.contains_iff_mem]), hb]
  rw [State.fetch, bytes]

/-- Four bytes whose word no row of the opcode table matches are no instruction (R82). -/
theorem State.fetch_of_no_hits {s : State} {b0 b1 b2 b3 : Byte} (hb : s.fetchBytes = .ok [b0, b1, b2, b3])
    (hw : ∀ r ∈ opTable, r.hits (b0 ++ b1 ++ b2 ++ b3) = false) :
    s.fetch = .error (.illegalInstruction (b0 ++ b1 ++ b2 ++ b3)) := by
  have invalid : decode [b0, b1, b2, b3] = .error (.invalid (b0 ++ b1 ++ b2 ++ b3)) := by
    rw [decode, wordOfBytes, decodeWord_of_no_hits hw]
  rw [State.fetch, hb]
  simp only [invalid]

theorem step_of_fetch_error {s : State} {f : Fault} (hr : s.run = .running)
    (hq : ¬ (s.ie = true ∧ s.stalled = false ∧ s.irq = true)) (hf : s.fetch = .error f) : step s = .fault f := by
  rw [step_of_fetch hr hq, hf]

/-- A stopped or halted machine is stuck (U12). -/
theorem step_of_not_running {s : State} (hr : s.run ≠ .running) : step s = .fault (.notRunning s.run) := by
  rw [step]
  cases hrun : s.run with
  | running => exact absurd hrun hr
  | stopped => rfl
  | halted => rfl

/-- Settles O8: the step hands on what the fetch answers, and the fetch looks at Dirty, then at the bytes, then at the
word. -/
theorem fetchFaultsInOrder : Obligations.FetchFaultsInOrder := by
  refine fun s => ⟨fun hr hq => ⟨fun hd => ?stored, fun hd ⟨k, hk, hnone⟩ => ?undefined,
    fun hd b0 b1 b2 b3 h0 h1 h2 h3 hw => ?invalid⟩, step_of_not_running⟩
  case stored => exact step_of_fetch_error hr hq (State.fetch_of_dirty hd)
  case undefined =>
    exact step_of_fetch_error hr hq (State.fetch_of_undefined hd (Memory.readBytes_eq_none hk hnone))
  case invalid =>
    have bytes := State.fetchBytes_of_readBytes hd (readBytes_four h0 h1 h2 h3)
    exact step_of_fetch_error hr hq (State.fetch_of_no_hits bytes hw)

/-! ## SRR0 and IE (R28, R30, R301) -/

section

variable {i : Instr} {s t : State}

/-- No ending of an instruction writes SRR0 (R30). -/
theorem Effect.srr0_eq (h : Effect i s t) : t.srr0 = s.srr0 := by
  cases h with
  | retire | fpRetire | setFpscr | store | advance | sync | goto | gotoIe | call | callIe | halt | stop | stopd | setSpr
  | read | readWaits | write | writeWaits => rfl

/-- Only the endings with a suffix write IE, each the value of its suffix (R28, R301). -/
theorem Effect.ie_cases (h : Effect i s t) : t.ie = s.ie ∨ ieSuffix i = some t.ie := by
  cases h with
  | gotoIe a b hb => exact .inr hb
  | callIe rt a b ht hb => exact .inr hb
  | retire | fpRetire | setFpscr | store | advance | sync | goto | call | halt | stop | stopd | setSpr | read | readWaits
  | write | writeWaits => exact .inl rfl

end

/-- Settles O12: a step is an interrupt entry, or the fetched instruction with one of its endings. -/
theorem interruptEnableWriters : Obligations.InterruptEnableWriters := by
  intro s t h
  obtain ⟨hr, ⟨hi, rfl⟩ | ⟨i, u, hf, hexec, rfl⟩⟩ := step_next h
  · obtain ⟨hie, hstalled, hirq⟩ := s.interrupted_iff.1 hi
    exact .inl ⟨hr, hie, hstalled, hirq, rfl, rfl, rfl⟩
  · have effect := exec_effect hexec
    exact .inr ⟨i, hf, effect.srr0_eq, effect.ie_cases⟩

/-! ## Every instruction answers (R410) -/

/-- Settles O16: the one answer that is not a next state is that of an unmapped special purpose register. -/
theorem everyInstructionAnswers : Obligations.EveryInstructionAnswers := by
  intro i s mapped
  have answer := exec_answers i s
  generalize exec i s = r at answer ⊢
  cases answer with
  | next _ => exact ⟨_, rfl⟩
  | unmapped n hn hs => exact absurd hs (mapped n hn)

/-! ## The words of the spec's examples -/

/-- The word that the encoder writes for an instruction without ignored bits decodes to it. -/
theorem decodeWord_of_encode {w : Word} {i : Instr} (hw : encode i = w) (hi : i.clearIgnored = i) :
    decodeWord w = .ok i := by
  rw [← hw, decodeWord_encode, hi]

/-- Settles O5: each word is the one that the encoder writes for the statement printed beside it. -/
theorem specWordsDecode : Obligations.SpecWordsDecode :=
  ⟨decodeWord_of_encode rfl rfl, decodeWord_of_encode rfl rfl, decodeWord_of_encode rfl rfl,
    decodeWord_of_encode rfl rfl, decodeWord_of_encode rfl rfl, decodeWord_of_encode rfl rfl,
    decodeWord_of_encode rfl rfl, decodeWord_of_encode rfl rfl, decodeWord_of_encode rfl rfl,
    decodeWord_of_encode rfl rfl, decodeWord_of_encode rfl rfl, decodeWord_of_encode rfl rfl⟩

end Sys2Proof.Machine
end

section
/-! Stop, special purpose registers and channels (49_control_channel.md): the equations of each instruction's answers,
then what the answers leave. -/

namespace Sys2Proof.Machine

/-! ## Stop (R391, R392, R411) -/

theorem State.npcValue_of_pc (s : State) (h : Config.npcAtStop = .pc) : s.npcValue = s.pc := by
  rw [State.npcValue, h]

theorem State.toNat_npcValue_of_pcPlus4 (s : State) (h : Config.npcAtStop = .pcPlus4) :
    s.npcValue.toNat = (s.pc.toNat + 4) % Config.lsSize := by
  rw [← s.toNat_pc_add_four, State.npcValue, h]

/-- Settles O57: both end in `stopAndSignal`, with NPC for each reading of NPC_AT_STOP. -/
theorem stopAndSignal : Obligations.StopAndSignal := by
  intro u14 ra rb rc s
  have npcPc := s.npcValue_of_pc
  have npcPlus4 := s.toNat_npcValue_of_pcPlus4
  refine ⟨⟨s.stopAndSignal u14, rfl, rfl, rfl, npcPc, npcPlus4, rfl, ?_⟩,
    ⟨s.stopAndSignal 0x3FFF#14, rfl, rfl, rfl, npcPc, npcPlus4, rfl, ?_⟩⟩ <;>
    exact ⟨rfl, fun _ => rfl, ⟨fun _ => rfl, rfl⟩, rfl, fun _ => rfl, rfl, rfl, rfl, rfl, rfl⟩

/-! ## Special purpose registers (R398, R399) -/

section

variable {s : State} {n : SprNum}

theorem exec_mfspr_of_mapped {v : Word} (h : s.spr n = some v) (rt : Reg) :
    exec (.mfspr rt n) s = .next (s.retire rt (v ++ s.fresh96)) := by
  rw [exec, execMfspr, h]

theorem exec_mtspr_of_mapped {v : Word} (h : s.spr n = some v) (ra : Reg) :
    exec (.mtspr n ra) s = .next (s.setSpr n (s.reg0 ra)).advance := by
  rw [exec, execMtspr, h]

theorem exec_mfspr_of_unmapped (h : s.spr n = none) (rt : Reg) :
    exec (.mfspr rt n) s = .fault (.illegalInstruction (encode (.mfspr rt n))) := by
  rw [exec, execMfspr, h]

theorem exec_mtspr_of_unmapped (h : s.spr n = none) (ra : Reg) :
    exec (.mtspr n ra) s = .fault (.illegalInstruction (encode (.mtspr n ra))) := by
  rw [exec, execMtspr, h]

end

/-- The word put before 96 other bits is word element 0 (R9). -/
theorem wordOf_append_zero (v : Word) (rest : BitVec 96) : wordOf (v ++ rest) 0 = v :=
  BitVec.extractLsb'_append_eq_left

/-- Settles O58: the answers of both for a mapped and for an unmapped number; the fault holds the word that the encoder
writes for the instruction, of which no bit is ignored. -/
theorem specialPurposeRegisterMoves : Obligations.SpecialPurposeRegisterMoves := by
  refine fun rt ra n s => ⟨fun v hv => ⟨?mfspr, ?mtspr⟩, fun hnone => ⟨?mfsprFault, ?mtsprFault⟩⟩
  case mfspr => exact computes_of_retire (exec_mfspr_of_mapped hv rt) (wordOf_append_zero v s.fresh96)
  case mtspr =>
    exact ⟨_, exec_mtspr_of_mapped hv ra, s.spr_setSpr_self n (s.reg0 ra), fun _ ne => s.spr_setSpr_of_ne _ ne,
      s.advance_nextPc, fun _ => rfl, ⟨fun _ => rfl, rfl⟩, ⟨rfl, rfl, rfl, rfl, rfl⟩, rfl, rfl, rfl, rfl, rfl⟩
  case mfsprFault => exact ⟨_, exec_mfspr_of_unmapped hnone rt, decodeWord_encode (.mfspr rt n)⟩
  case mtsprFault => exact ⟨_, exec_mtspr_of_unmapped hnone ra, decodeWord_encode (.mtspr n ra)⟩

/-! ## Channels (R400 to R402) -/

section

variable {s : State} {ch : Chan}

theorem exec_rdch_of_value {v : Quad} (h : s.chRead ch = some v) (rt : Reg) :
    exec (.rdch rt ch) s = .next (((s.emit (.chRead ch v)).retire rt v).setStalled false) := by
  rw [exec, execRdch, h, State.finishRead]

theorem exec_rdch_of_blocked (h : s.chRead ch = none) (rt : Reg) :
    exec (.rdch rt ch) s = .next (s.setStalled true) := by
  rw [exec, execRdch, h, State.finishRead]

theorem exec_wrch_of_done {ra : Reg} (h : s.chWrite ch (s.reg ra) = true) :
    exec (.wrch ch ra) s = .next ((s.emit (.chWrite ch (s.reg ra))).advance.setStalled false) := by
  rw [exec, execWrch, h, State.finishWrite, if_pos rfl]

theorem exec_wrch_of_blocked {ra : Reg} (h : s.chWrite ch (s.reg ra) = false) :
    exec (.wrch ch ra) s = .next (s.setStalled true) := by
  rw [exec, execWrch, h, State.finishWrite, if_neg Bool.false_ne_true]

end

/-- Settles O59: each answer of the channel side leads to one ending; a blocked access ends in `setStalled true`, which
writes nothing else. -/
theorem channels : Obligations.Channels := by
  refine fun rt ra ch s => ⟨fun v hv => ?read, fun hnone => ?readWaits, ?count, fun hdone => ?write,
    fun hblocked => ?writeWaits⟩
  case read =>
    exact ⟨_, exec_rdch_of_value hv rt, State.reg_retire_self _ rt v, rfl, rfl, s.advance_nextPc,
      fun _ ne => State.reg_retire_of_ne _ v ne, ⟨fun _ => rfl, rfl⟩, ⟨rfl, rfl, rfl, fun _ => rfl⟩, rfl, rfl, rfl, rfl,
      rfl⟩
  case readWaits =>
    exact ⟨_, exec_rdch_of_blocked hnone rt, rfl, rfl, rfl, fun _ => rfl, ⟨fun _ => rfl, rfl⟩,
      ⟨rfl, rfl, rfl, fun _ => rfl⟩, rfl, rfl, rfl, rfl, rfl⟩
  case count =>
    exact computes_of_retire rfl ⟨wordOf_inWord0_zero _, fun _ h0 hk => wordOf_inWord0_of_pos _ h0 hk⟩
  case write =>
    exact ⟨_, exec_wrch_of_done hdone, rfl, rfl, s.advance_nextPc, fun _ => rfl, ⟨fun _ => rfl, rfl⟩,
      ⟨rfl, rfl, rfl, fun _ => rfl⟩, rfl, rfl, rfl, rfl, rfl⟩
  case writeWaits =>
    exact ⟨_, exec_wrch_of_blocked hblocked, rfl, rfl, rfl, fun _ => rfl, ⟨fun _ => rfl, rfl⟩,
      ⟨rfl, rfl, rfl, fun _ => rfl⟩, rfl, rfl, rfl, rfl, rfl⟩

end Sys2Proof.Machine
end
